-- ==== Sys2Proof/Word.lean ====
section
/-! DEFINITION. The plain data words of the ZP-4720 model: bytes, converter codes, and small
fixed-size containers (one place per pump, gate channel, circuit or sign output). Only types
stand here; the operations on them are in Machine/Ops.lean. -/

namespace Sys2Proof

/-- One byte of a frame, of the configuration image, or of an answer. -/
abbrev Byte := BitVec 8

/-- A code of the 12-bit analog converter, 0 to 4095 (R1). -/
abbrev Code := BitVec 12

/-- Two like things: one for each gate channel, 0 and 1 (R127). -/
structure Two (α : Type) where
  c0 : α
  c1 : α
  deriving DecidableEq, Repr

/-- Four like things: one for each pump index, 0 to 3 (R40). -/
structure Four (α : Type) where
  p0 : α
  p1 : α
  p2 : α
  p3 : α
  deriving DecidableEq, Repr

/-- Eight like things: one for each lighting circuit (R147) or sign output (R159), 0 to 7. -/
structure Eight (α : Type) where
  e0 : α
  e1 : α
  e2 : α
  e3 : α
  e4 : α
  e5 : α
  e6 : α
  e7 : α
  deriving DecidableEq, Repr

end Sys2Proof
end

