-- ==== Sys2Proof/Syntax.lean ====
section
/-! DEFINITION. The commands of the ZP-4720 block: ONE constructor of `Instr` for each row of
spec/opcode_table.json, in the table's order, and the operand types they carry.

Every command carries first the time `dt`, in microseconds, that has passed since the command
before it (log entry 1). A row that the spec times by a timer of the part takes effect only once
that timer has run out; a row that is the outcome of a scan end acts on what the last scan end
left in the state (log entry 2). Where a row reads the idle count of the line, it carries how long,
in microseconds, the line has been idle as RXD shows it (log entry 7). -/

namespace Sys2Proof

/-- The state of a float or of the road-water probe (R10). -/
inductive Water where
  | dry
  | wet
  deriving DecidableEq, Repr

/-- The decoded position of a pump selector (R11). -/
inductive Position where
  | off
  | auto
  | hand
  deriving DecidableEq, Repr

/-- A pump's run feedback (R10). -/
inductive Feedback where
  | closed
  | opened
  deriving DecidableEq, Repr

/-- A gate limit, an obstruction input or a panel key (R10). CLEAR of an obstruction input is
`inactive`. -/
inductive Switch where
  | active
  | inactive
  deriving DecidableEq, Repr

/-- The day/night input (R10). -/
inductive DayNight where
  | day
  | night
  deriving DecidableEq, Repr

/-- The supply-mode input (R10, R110). -/
inductive SupplyMode where
  | mains
  | generator
  deriving DecidableEq, Repr

/-- The three inputs watched for chatter (R12). -/
inductive WaterInput where
  | lowFloat
  | highFloat
  | probe
  deriving DecidableEq, Repr

/-- The two level loops (R1, R3). -/
inductive LoopId where
  | loopA
  | loopB
  deriving DecidableEq, Repr

/-- The two limit switches of a gate channel (R127). -/
inductive LimitId where
  | openLimit
  | closedLimit
  deriving DecidableEq, Repr

/-- The reset causes that an outside event brings (R176). RESTART and CLOCK have rows of
their own. -/
inductive ResetEvent where
  | powerOn
  | brownOut
  | resetPin
  deriving DecidableEq, Repr

/-- What shows a line fault (R80): a low sent and read high, or a line low for more than
30 bit times. -/
inductive LineFaultSign where
  | lowReadHigh
  | stuckLow
  deriving DecidableEq, Repr

/-- What has passed before an event of the quiet line: the time since the last command, and how long
the line has been idle as RXD shows it, in microseconds (R70, R72, R76). -/
structure Silence where
  dt : Nat
  idle : Nat
  deriving DecidableEq, Repr

/-- The codes of one converter scan, slots 0 to 7 (R1). -/
structure Scan where
  loopA : Code
  loopB : Code
  current : Four Code
  luminance : Code
  reference : Code
  deriving DecidableEq, Repr

/-- The three input pins of one gate channel (R127, pin summary of 11.6). -/
structure GatePins where
  openLimit : Switch
  closedLimit : Switch
  obstruction : Switch
  deriving DecidableEq, Repr

/-- Every digital input as it is sampled once at a scan end (R1, R10, pin summary of 11.6). A
selector is its AUTO pin and its HAND pin, `true` for active (R11). -/
structure Pins where
  lowFloat : Water
  highFloat : Water
  probe : Water
  selectorAuto : Four Bool
  selectorHand : Four Bool
  feedback : Four Feedback
  gate : Two GatePins
  holdKey : Switch
  forceCloseKey : Switch
  reopenKey : Switch
  panelResetKey : Switch
  dayNight : DayNight
  supplyMode : SupplyMode
  deriving DecidableEq, Repr

/-- The commands: the rows of spec/opcode_table.json. For a tool frame `target` is its target
number, `seq` its sequence number and `index` the index byte as the frame gives it (R183); for a
peer's frame `sender` is its sender number. `idle` is how long the line has been idle, for a byte
received at the moment its start bit came; `levels` are the ten bits of that byte as RXD showed them
at their middles, bit 0 the start bit and bit 9 the stop bit (R70). `rxd` is the level read back, `true`
for high (R77), and `lowFor` how long RXD has been low without a break (R80). -/
inductive Instr where
  | reset (dt : Nat) (event : ResetEvent)
  | oscillatorStartTimer (dt : Nat) (clockRuns : Bool) (straps : BitVec 4)
  | imageReadComplete (dt : Nat) (image : List Byte)
  | mainClockLoss (dt : Nat)
  | clockReturn (dt : Nat)
  | scanEnd (dt : Nat) (scan : Scan) (pins : Pins)
  | converterFault (dt : Nat) (scan : Scan) (pins : Pins)
  | converterRecovery (dt : Nat) (scan : Scan) (pins : Pins)
  | loopFault (dt : Nat) (loop : LoopId) (scan : Scan) (pins : Pins)
  | loopRecovery (dt : Nat) (loop : LoopId) (scan : Scan) (pins : Pins)
  | levelUpdate (dt : Nat)
  | rateTimer (dt : Nat)
  | floatStateChange (dt : Nat) (input : WaterInput)
  | changeListEntryExpiry (dt : Nat) (input : WaterInput)
  | chatterQuietTimer (dt : Nat) (input : WaterInput)
  | descentHoldExpiry (dt : Nat)
  | selectorChange (dt : Nat) (pump : Fin 4)
  | pumpFeedbackChange (dt : Nat) (pump : Fin 4)
  | feedbackCheck (dt : Nat) (pump : Fin 4)
  | attemptFeedbackLoss (dt : Nat) (pump : Fin 4)
  | attemptTimeout (dt : Nat) (pump : Fin 4)
  | retryPauseExpiry (dt : Nat) (pump : Fin 4)
  | startHistoryEntryExpiry (dt : Nat) (pump : Fin 4)
  | overcurrentTrip (dt : Nat) (pump : Fin 4)
  | feedbackLossTrip (dt : Nat) (pump : Fin 4)
  | runOnTimerExpiry (dt : Nat) (pump : Fin 4)
  | restTimerExpiry (dt : Nat) (pump : Fin 4)
  | panelResetKey (dt : Nat)
  | clearLockout (dt : Nat) (target : Fin 16) (seq index : Byte)
  | clearPumpRecord (dt : Nat) (target : Fin 16) (seq index : Byte)
  | pumpRecordQuery (dt : Nat) (target : Fin 16) (seq index : Byte)
  | frameReceived (dt : Nat) (lockPin : Bool)
  | badFrameReceived (dt : Nat)
  | partialFrameDiscard (silence : Silence)
  | statusReportReceived (dt : Nat) (sender : Fin 16) (seq : Byte) (payload : List Byte)
  | stageCallReceived (dt : Nat) (sender : Fin 16) (seq : Byte) (stage : Byte)
  | startIntentReceived (dt : Nat) (sender : Fin 16) (seq : Byte) (pump : Byte)
      (inrush : BitVec 16) (urgency attempt : Byte)
  | shedCallReceived (dt : Nat) (sender : Fin 16) (seq : Byte) (shortfall : BitVec 16)
      (urgency : Byte)
  | stationAnswerReceived (dt : Nat) (sender : Fin 16) (seq : Byte) (payload : List Byte)
  | ownNumberFrameReceived (dt : Nat) (kind : Byte) (target : Fin 16) (seq : Byte)
      (payload : List Byte)
  | ownNumberListExpiry (dt : Nat)
  | peerStale (dt : Nat) (station : Fin 16)
  | peerRemoval (dt : Nat) (station : Fin 16)
  | reservationExpiry (dt : Nat) (sender : Fin 16)
  | attemptBegin (silence : Silence)
  | collision (dt : Nat) (rxd : Bool)
  | frameSent (dt : Nat)
  | lineFault (dt : Nat) (sign : LineFaultSign) (lowFor : Nat)
  | probeTimerExpiry (dt idle : Nat)
  | periodicReportDue (dt : Nat)
  | reportMarkerPlace (dt : Nat)
  | listenWindowEnd (dt : Nat)
  | islandStart (dt : Nat)
  | clashTimerExpiry (dt : Nat)
  | clearCounters (dt : Nat) (target : Fin 16) (seq index : Byte)
  | lineCountersQuery (dt : Nat) (target : Fin 16) (seq index : Byte)
  | peerViewQuery (dt : Nat) (target : Fin 16) (seq index : Byte)
  | supplyModeChange (dt : Nat)
  | intentSpacingElapsed (dt : Nat)
  | intentWindowExpiry (dt : Nat)
  | entryWaitExpiry (dt : Nat)
  | startSpacingElapsed (dt : Nat)
  | ownShortfallTimerExpiry (dt : Nat)
  | shedCallTimerExpiry (dt : Nat)
  | restoreTimerExpiry (dt : Nat)
  | deadTimeEnd (dt : Nat) (channel : Fin 2)
  | gateLimitChange (dt : Nat) (channel : Fin 2) (limit : LimitId)
  | driftTimeLapse (dt : Nat) (channel : Fin 2)
  | obstructionChange (dt : Nat) (channel : Fin 2)
  | obstructionClear3s (dt : Nat) (channel : Fin 2)
  | obstructionClear5s (dt : Nat) (channel : Fin 2)
  | gateHoldPress (dt : Nat)
  | gateHoldRelease (dt : Nat)
  | forceCloseKeyChange (dt : Nat)
  | reopenKey (dt : Nat)
  | lowStageTimeElapsed (dt : Nat)
  | travelTimeout (dt : Nat) (channel : Fin 2)
  | clearGateFault (dt : Nat) (target : Fin 16) (seq index : Byte)
  | reopenFloodGate (dt : Nat) (target : Fin 16) (seq index : Byte)
  | gateRecordQuery (dt : Nat) (target : Fin 16) (seq index : Byte)
  | dayNightChange (dt : Nat)
  | entranceStepMove (dt : Nat)
  | lightingRecordQuery (dt : Nat) (target : Fin 16) (seq index : Byte)
  | dwellTimerExpiry (dt : Nat)
  | flashClockHalf (dt : Nat)
  | stationSummaryQuery (dt : Nat) (target : Fin 16) (seq index : Byte)
  | measurementRecordQuery (dt : Nat) (target : Fin 16) (seq index : Byte)
  | configurationChunkQuery (dt : Nat) (target : Fin 16) (seq index : Byte)
  | unknownToolRequest (dt : Nat) (target : Fin 16) (seq : Byte) (order : Bool)
      (code index : Byte)
  | configWrite (dt : Nat) (target : Fin 16) (seq offset : Byte) (data : List Byte)
      (lockPin : Bool)
  | memoryStatusPoll (dt : Nat) (status : Byte)
  | readBackCompare (dt : Nat) (data : List Byte)
  | configWriteTimeout (dt : Nat)
  | restart (dt : Nat) (target : Fin 16) (seq index : Byte)
  | restartBegin (dt : Nat)
  | fallbackOutputTime (dt : Nat) (output : Fin 4)
  | fallbackInputSample (dt : Nat) (pins : Pins)
  | resetPinRelease (dt : Nat)
  | byteReceived (dt idle : Nat) (levels : BitVec 10)
  deriving DecidableEq, Repr

end Sys2Proof
end

