-- ==== Sys2Proof/Config.lean ====
section
/-! DEFINITION. What the configuration image fixes for one run (the settings of R186, as start-up
takes them), and the free values: constants without a body that stand where the spec leaves a
value or an order open, so that nothing can be proved about which one the part has. -/

namespace Sys2Proof

/-- What a gate channel drives (R127). -/
inductive GateKind where
  | none
  | barrier
  | floodgate
  deriving DecidableEq, Repr

/-- What a lighting circuit lights (R147). -/
inductive CircuitKind where
  | unused
  | emergency
  | entrance
  | interior
  deriving DecidableEq, Repr

/-- The mode a scene gives one sign output (R159). -/
inductive SignMode where
  | off
  | on
  | flash
  | flashInverted
  deriving DecidableEq, Repr

/-- The settings of one gate channel (R127): travel limit in seconds, motor load in 0.1 kW. -/
structure GateSettings where
  kind : GateKind
  travelLimit : Nat
  motorLoad : Nat
  deriving DecidableEq, Repr

/-- The settings of one lighting circuit (R147). -/
structure CircuitSettings where
  kind : CircuitKind
  rated : Nat
  floor : Nat
  day : Nat
  night : Nat
  deriving DecidableEq, Repr

/-- One step of the entrance table (R150). -/
structure EntranceStep where
  threshold : Nat
  duty : Nat
  deriving DecidableEq, Repr

/-- One scene (R159): a mode for each sign output and a dwell in half-seconds. -/
structure Scene where
  modes : Eight SignMode
  dwell : Nat
  deriving DecidableEq, Repr

/-- The settings in force, in the order of the image layout (R186). -/
structure Settings where
  sumpFitted : Bool
  probeFitted : Bool
  variableTrim : Bool
  pairing : Bool
  pumpCount : Nat
  span : Nat
  area : Nat
  agreeBand : Nat
  t0 : Nat
  t1 : Nat
  t2 : Nat
  t3 : Nat
  t4 : Nat
  hysteresis : Nat
  ratedFlow : Nat
  pRun : Nat
  pIn : Nat
  settleTime : Nat
  runOnTime : Nat
  restTime : Nat
  startsPerHour : Nat
  troubleThreshold : Nat
  minSpeed : Nat
  noLoadCode : Nat
  settleCode : Nat
  tripCode : Nat
  spacing : Nat
  budgetGenerator : Nat
  budgetMains : Nat
  islandShare : Nat
  restoreMargin : Nat
  descentHold : Nat
  gate : Two GateSettings
  circuit : Eight CircuitSettings
  emergencyLevel : Nat
  evacuationLevel : Nat
  step : Eight EntranceStep
  luminanceHysteresis : Nat
  /-- The sixteen scenes, 0 to 15. -/
  scene : List Scene
  /-- The five stage programs, 0 to 4, each the list of its entries' scene numbers (R160). -/
  program : List (List Nat)
  deriving DecidableEq, Repr

/-- The settings while no image has been judged, and with image status ABSENT (R178): nothing is
fitted, S is 5 s and D is 120 s. The spec gives no other contents: that every other number stands at the
least value of its range, and that the scene table and the stage programs are empty lists, is the
model's DESIGN CHOICE (log entry 53); no block reads them in those modes. -/
def Settings.absent : Settings where
  sumpFitted := false
  probeFitted := false
  variableTrim := false
  pairing := false
  pumpCount := 0
  span := 500
  area := 1
  agreeBand := 50
  t0 := 0
  t1 := 0
  t2 := 0
  t3 := 0
  t4 := 0
  hysteresis := 20
  ratedFlow := 1
  pRun := 10
  pIn := 10
  settleTime := 2
  runOnTime := 0
  restTime := 10
  startsPerHour := 4
  troubleThreshold := 1
  minSpeed := 40
  noLoadCode := 0
  settleCode := 0
  tripCode := 0
  spacing := 5
  budgetGenerator := 0
  budgetMains := 0
  islandShare := 0
  restoreMargin := 0
  descentHold := 120
  gate := ⟨⟨.none, 2, 0⟩, ⟨.none, 2, 0⟩⟩
  circuit := ⟨⟨.unused, 0, 0, 0, 0⟩, ⟨.unused, 0, 0, 0, 0⟩, ⟨.unused, 0, 0, 0, 0⟩,
    ⟨.unused, 0, 0, 0, 0⟩, ⟨.unused, 0, 0, 0, 0⟩, ⟨.unused, 0, 0, 0, 0⟩,
    ⟨.unused, 0, 0, 0, 0⟩, ⟨.unused, 0, 0, 0, 0⟩⟩
  emergencyLevel := 0
  evacuationLevel := 0
  step := ⟨⟨0, 0⟩, ⟨0, 0⟩, ⟨0, 0⟩, ⟨0, 0⟩, ⟨0, 0⟩, ⟨0, 0⟩, ⟨0, 0⟩, ⟨0, 0⟩⟩
  luminanceHysteresis := 0
  scene := []
  program := []

/-- One less than the number of entrance steps in use that a start-up into configuration fallback
fixes: R150 gives 1 to 8, and the spec does not state which (log entry 12). DESIGN CHOICE: a free
value; it is applied to the state's counter of free values. -/
opaque Config.freeSteps : Nat → Fin 8

/-- An order that the spec leaves open inside one event: which of two requests that reach the
headroom at one recomputation is taken first (R112; log entry 13). DESIGN CHOICE: a free value;
it is applied to the state's counter of free values. -/
opaque Config.freeOrder : Nat → Bool

/-- A rank that orders pumps which enter RESTING at one event, where the spec does not say which goes
to the tail of the duty order first (R42, R62; log entry 13). DESIGN CHOICE: a free value; it is
applied to the state's counter of free values and the pump's index. -/
opaque Config.freeRank : Nat → Nat → Nat

end Sys2Proof
end

