-- ==== Sys2Proof/Machine/State.lean ====
section
/-! DEFINITION. The state of the block as plain data: one structure per block of section 2.1 of
spec/00_scope.md, the commands that wait, the faults and refusals, and the state after reset.

Times are in microseconds on the model's clock `now`, which each command moves on by its `dt`
(log entry 1). A running timer is held as the moment at which it runs out; an absent or stopped
timer is `none`. -/

namespace Sys2Proof.Machine

/-! ## Start-up and supervision (chapter 11) -/

/-- Where the part stands (R176, R178, R179). -/
inductive Mode where
  /-- Held in reset by the reset pin (R176). -/
  | held
  /-- Start-up step 1: the oscillator start timer runs (R176). -/
  | oscillator
  /-- Start-up step 3: the straps are read and the image is being read (R176). -/
  | image
  /-- Normal operation (R178). -/
  | operating
  /-- Configuration fallback (R178). -/
  | configFallback
  /-- Clock fallback (R179). -/
  | clockFallback
  deriving DecidableEq, Repr

/-- The five reset causes (R176, R184). -/
inductive ResetCause where
  | powerOn
  | brownOut
  | resetPin
  | restart
  | clock
  deriving DecidableEq, Repr

/-- The image status (R178, R184). -/
inductive ImageStatus where
  | valid
  | clamped
  | invalid
  | absent
  deriving DecidableEq, Repr

/-- The start-up record, the straps and the settings in force. -/
structure Startup where
  /-- Recorded reset cause (R176). -/
  cause : ResetCause
  /-- Image status; `none` until this start-up has judged the image (R178). -/
  imageStatus : Option ImageStatus
  /-- The oscillator start timer, 20 ms (R176). -/
  oscillatorUntil : Option Nat
  /-- The own number n, 0 to 15, as the straps gave it (R177). -/
  number : Nat
  /-- The straps have been read in this start-up (R177). -/
  strapsRead : Bool
  /-- The active image: the 256 bytes as read, empty when none were read (R170). -/
  activeImage : List Byte
  /-- The settings as clamped (R178, R186). -/
  settings : Settings
  /-- The clock monitor: the moment at which it last found the main clock absent for more than 2 ms
  (R179). -/
  clockMissed : Option Nat
  deriving DecidableEq, Repr

/-- The fallback pump logic's run (R180). -/
structure Fallback where
  /-- Start time of the run in progress. -/
  run : Option Nat
  /-- The outputs whose time has passed in this run. -/
  passed : Four Bool
  deriving DecidableEq, Repr

/-! ## Level measurement (chapter 1) -/

/-- A loop's fault state (R4). -/
inductive LoopFault where
  | normal
  | opened
  | over
  deriving DecidableEq, Repr

/-- One level loop: fault state, run counts and average list, oldest first (R4 to R6). -/
structure Loop where
  fault : LoopFault
  lowRun : Nat
  highRun : Nat
  recovery : Nat
  average : List Nat
  deriving DecidableEq, Repr

/-- The level source (R8, R18). -/
inductive LevelSource where
  | average
  | higher
  | loopA
  | loopB
  | lost
  | notFitted
  deriving DecidableEq, Repr

/-- The converter, the loops, the level, the rate and the inflow. -/
structure Meas where
  /-- Scan ends counted from 1 after reset (R1). -/
  scanCount : Nat
  /-- The moment of the last scan end. -/
  lastScan : Option Nat
  /-- The moment from which the 20 ms to the next sampling run: the beginning of the scan under way, and
  in clock fallback the last sampling; `none` before the converter starts (R1, R19). -/
  sampleFrom : Option Nat
  /-- The model's own: the level update of the last scan end has not been taken yet (R1). -/
  levelDue : Bool
  /-- The converter is FAULTED (R2). -/
  faulted : Bool
  badRun : Nat
  goodRun : Nat
  /-- The analog values of the last delivered scan, `none` for invalid (R2). -/
  codeA : Option Nat
  codeB : Option Nat
  current : Four (Option Nat)
  luminance : Option Nat
  loopA : Loop
  loopB : Loop
  /-- Level L of the most recent level update, `none` when it gave none (R8). -/
  level : Option Nat
  source : LevelSource
  /-- The disagreement run's beginning (R9). -/
  disagreeRun : Option Nat
  disagree : Bool
  /-- R_f, mm per 10 s (R14). -/
  rate : Int
  rateValid : Bool
  levelPrev : Option Nat
  /-- The rate timer, counted in scan ends (R14). -/
  rateTimer : Option Nat
  outflow : Nat
  inflow : Nat
  inflowValid : Bool
  deriving DecidableEq, Repr

/-- The stable-state filter of one input (R10); `none` is UNKNOWN. A change of stable state is handed
to the input's owner by a row of its own (log entry 2). -/
structure Filter (α : Type) where
  stable : Option α
  candidate : Option α
  count : Nat
  /-- The model's own: the stable state as the input's owner has received it. -/
  given : Option α
  /-- The model's own: the stable states reached since, oldest first, that the owner has not yet
  received. -/
  waiting : List α
  deriving DecidableEq, Repr

/-- The chatter watch of a float or the probe (R12, R13). -/
structure Chatter where
  chatter : Bool
  /-- Times of the stable-state changes of the last 10 s, oldest first. -/
  changes : List Nat
  quietUntil : Option Nat
  deriving DecidableEq, Repr

/-- The filtered inputs of one gate channel (R127). -/
structure GateInputs where
  openLimit : Filter Switch
  closedLimit : Filter Switch
  obstruction : Filter Switch
  deriving DecidableEq, Repr

/-- Every filtered input (R10). -/
structure Inputs where
  lowFloat : Filter Water
  highFloat : Filter Water
  probe : Filter Water
  lowChatter : Chatter
  highChatter : Chatter
  probeChatter : Chatter
  selector : Four (Filter Position)
  feedback : Four (Filter Feedback)
  gate : Two GateInputs
  holdKey : Filter Switch
  forceCloseKey : Filter Switch
  reopenKey : Filter Switch
  panelResetKey : Filter Switch
  dayNight : Filter DayNight
  supplyMode : Filter SupplyMode
  deriving DecidableEq, Repr

/-! ## Stage and demand (chapter 2) -/

/-- Local stage, site stage, demand and trim (R39). -/
structure Stage where
  /-- The previous level stage, `none` for NONE (R23). -/
  levelStage : Option Nat
  localStage : Nat
  /-- The computed maximum M (R28). -/
  maximum : Nat
  site : Nat
  /-- The moment the descent hold runs out (R29). -/
  hold : Option Nat
  /-- n_req (R33 to R35). -/
  wanted : Nat
  /-- Trim speed s, percent (R36). -/
  trim : Nat
  /-- The 8-bit code of the speed reference output (R37). -/
  speedReference : Nat
  /-- The model's own: the evaluation of the local stage that a change of a reported state asks for
  waits for another change of the same scan end (R22). -/
  evaluationWaits : Bool
  deriving DecidableEq, Repr

/-! ## Pump control (chapter 3) -/

/-- The state of a pump (R41), with NOT FITTED (R40). -/
inductive PumpState where
  | notFitted
  | disabled
  | off
  | waiting
  | starting
  | retryWait
  | running
  | runOn
  | resting
  | lockedOut
  deriving DecidableEq, Repr

/-- The last outcome of a pump (R55). -/
inductive StartOutcome where
  | clean
  | recovered
  | recoveredOver
  | failed
  deriving DecidableEq, Repr

/-- The lockout cause (R63). -/
inductive LockoutCause where
  | start
  | trips
  deriving DecidableEq, Repr

/-- A pump record (R40). The attention flag is computed from the trouble count (R60). -/
structure Pump where
  state : PumpState
  /-- The selector's stable position, `none` for UNKNOWN; it stands in fallback (R67). -/
  selector : Option Position
  attempt : Option Nat
  startedAt : Option Nat
  waitingSince : Option Nat
  history : List Nat
  trouble : Nat
  outcome : StartOutcome
  lockout : Option LockoutCause
  /-- The attempt timer: the moment of entry to STARTING (R49). -/
  attemptFrom : Option Nat
  /-- The settle phase of the attempt is open (R50, R51). -/
  settling : Bool
  /-- The retry pause; `none` in RETRY-WAIT is a stranded pump (R54). -/
  retryUntil : Option Nat
  /-- When its failed attempt ended, in RETRY-WAIT (R44). -/
  failedAt : Option Nat
  runOnUntil : Option Nat
  restUntil : Option Nat
  /-- Consecutive scan ends at or above the trip code (R57). -/
  overRun : Nat
  /-- Since when the run feedback is stably OPEN: the 1 s measure of R51 and R57. -/
  openSince : Option Nat
  deriving DecidableEq, Repr

/-- The four pump records and the duty order (R40, R42). -/
structure Pumps where
  pump : Four Pump
  duty : List (Fin 4)
  deriving DecidableEq, Repr

/-! ## The line controller (chapter 4) -/

/-- The line state (4.8). ISLAND is a condition of ON-LINE and is held beside it (R88). -/
inductive LineState where
  | listen
  | onLine
  | lineFault
  | clash
  deriving DecidableEq, Repr

/-- The LISTEN window (R87); at a station with an invalid number it does not end (R177). -/
inductive Window where
  | closed
  | opened (until_ : Nat)
  | endless
  deriving DecidableEq, Repr

/-- The frame kinds a station sends (R75). -/
inductive FrameKind where
  | statusReport
  | startIntent
  | stageCall
  | shedCall
  | stationAnswer
  deriving DecidableEq, Repr

/-- Which wait of the tool responder an answer ends (R174). -/
inductive AnswerTag where
  | plain
  | restart
  | write
  deriving DecidableEq, Repr

/-- One entry of the transmit queue (R82). -/
structure Entry where
  kind : FrameKind
  placedAt : Nat
  /-- The model's own: the entry's place in the order of placing. -/
  order : Nat
  /-- Attempts that count toward the eight (R78). -/
  attempts : Nat
  /-- Its sequence number, once its first attempt has begun (R79). -/
  sequence : Option Byte
  payload : List Byte
  /-- One of its attempts is on the line. -/
  onLine : Bool
  /-- A withdrawal is held until the attempt ends (R84). -/
  withdraw : Bool
  tag : AnswerTag
  deriving DecidableEq, Repr

/-- The receiver (R72): hunting for a delimiter, or assembling with the bytes collected after it and
whether one of them had a framing error. -/
inductive Receiver where
  | hunting
  | assembling (bytes : List Byte) (framingError : Bool)
  deriving DecidableEq, Repr

/-- The nine line counters (R90). -/
structure Counters where
  good : Nat
  broken : Nat
  unknownKinds : Nat
  collisions : Nat
  sendFailures : Nat
  queueDrops : Nat
  sequenceGaps : Nat
  discardedQueries : Nat
  ownNumber : Nat
  deriving DecidableEq, Repr

/-- The line controller (R92). -/
structure Line where
  state : LineState
  island : Bool
  window : Window
  receiver : Receiver
  /-- The moment before which the line cannot have been idle, which bounds the idle count (R70; log entry
  7). -/
  idleFrom : Nat
  report : Option Entry
  queue : List Entry
  /-- The model's own: entries placed so far. -/
  placed : Nat
  changePending : Bool
  lastReportStart : Option Nat
  /-- When the next periodic report falls due (R85). -/
  periodicAt : Option Nat
  sequence : Byte
  /-- The moment at which the island timer stood at 0; `none` before the first window (R88). -/
  islandFrom : Option Nat
  probeUntil : Option Nat
  clashUntil : Option Nat
  /-- The bytes of the frame whose attempt is on the line (R71). -/
  sending : Option (List Byte)
  /-- The moment at which that attempt began: its bits follow one another from there (R70). -/
  sendingFrom : Nat
  counters : Counters
  deriving DecidableEq, Repr

/-! ## Peer view (chapter 5) -/

/-- What is kept of a peer's last STATUS REPORT (R93, R96). -/
structure ReportContents where
  site : Nat
  running : Nat
  generator : Bool
  /-- The twelve fault flags that R183 names; a receiver does not read the other bits (R182). -/
  faults : BitVec 12
  deriving DecidableEq, Repr

/-- A present entry of the peer table (R93). -/
structure Peer where
  station : Nat
  lastFrame : Nat
  stale : Bool
  sequence : Byte
  gaps : Nat
  stage : Option Nat
  claim : Option Nat
  fallback : Bool
  report : Option ReportContents
  deriving DecidableEq, Repr

/-- An entry of the reservation list (R103). -/
structure Reservation where
  sender : Nat
  pump : Nat
  inrush : Nat
  urgency : Nat
  arrival : Nat
  deriving DecidableEq, Repr

/-- The peer view (R108). -/
structure PeerView where
  /-- The present entries, by rising station number. -/
  table : List Peer
  /-- The reservation list, oldest first. -/
  reservations : List Reservation
  /-- The own-number list (R102). -/
  ownNumber : List Nat
  deriving DecidableEq, Repr

/-! ## Supply budget and start slot (chapter 6) -/

/-- The budget mode (R111). -/
inductive BudgetMode where
  | none
  | peer
  | island
  deriving DecidableEq, Repr

/-- What an own START INTENT carries (R113). -/
structure Intent where
  pump : Fin 4
  inrush : Nat
  urgency : Nat
  attempt : Nat
  deriving DecidableEq, Repr

/-- A peer's intent as it is judged: its sender and urgency (R116). -/
structure Rival where
  sender : Nat
  urgency : Nat
  deriving DecidableEq, Repr

/-- The own intent state (6.4). While QUEUED it holds the peer intents heard since its
withdrawal was asked for (R114). -/
inductive OwnIntent where
  | none
  | queued (intent : Intent) (heard : List Rival)
  | window (intent : Intent) (until_ : Nat)
  deriving DecidableEq, Repr

/-- The last SHED CALL heard (R122). -/
structure HeardCall where
  sender : Nat
  shortfall : Nat
  urgency : Nat
  deriving DecidableEq, Repr

/-- The supply block (R126). -/
structure Supply where
  /-- L_own (R109). -/
  load : Nat
  /-- H (R111). -/
  headroom : Int
  mode : BudgetMode
  intent : OwnIntent
  lastIntent : Option Nat
  lastStart : Option Nat
  /-- Forming waits for the next level update, after a NOT SENT (R113). -/
  formWaits : Bool
  /-- The entry wait into island mode (R119). -/
  entryWait : Option Nat
  shedOffset : Nat
  shortfallUntil : Option Nat
  shedCallUntil : Option Nat
  restoreUntil : Option Nat
  deferrals : Nat
  lastShed : Option HeardCall
  deriving DecidableEq, Repr

/-! ## Gate control (chapter 7) -/

/-- The state of a gate channel (R128), with NOT FITTED (R127). -/
inductive GateState where
  | notFitted
  | unknown
  | opened
  | closing
  | closed
  | opening
  | suspended
  | held
  | fault
  deriving DecidableEq, Repr

/-- A direction of travel (R128). -/
inductive Direction where
  | close
  | open_
  deriving DecidableEq, Repr

/-- A gate fault cause (R128). -/
inductive GateFault where
  | travel
  | limitConflict
  | drift
  deriving DecidableEq, Repr

/-- A gate channel's record (R128) and its drives (R129). -/
structure Gate where
  state : GateState
  direction : Option Direction
  /-- Travel used before the drive last came on, microseconds. -/
  used : Nat
  /-- The drive that is on, and since when (R129). -/
  drive : Option Direction
  driveFrom : Nat
  cause : Option GateFault
  driftAt : Option Nat
  reopen : Bool
  /-- When the CLOSE drive and the OPEN drive last dropped (R129). -/
  closeDropped : Option Nat
  openDropped : Option Nat
  /-- Since when the obstruction input is stably CLEAR (R131, R133). -/
  clearSince : Option Nat
  deriving DecidableEq, Repr

/-- The two channels and the low-stage time (R136). -/
structure Gates where
  channel : Two Gate
  lowStageAt : Option Nat
  deriving DecidableEq, Repr

/-! ## Lighting (chapter 8) and signs (chapter 9) -/

/-- The lighting block (R158). -/
structure Lights where
  /-- The dimming outputs' applied duties (R153). -/
  duty : Eight Nat
  /-- The entrance step, `none` for UNSET (R151). -/
  step : Option Nat
  upRun : Option Nat
  downRun : Option Nat
  /-- The number of steps in use, fixed at start-up (R150). -/
  steps : Nat
  /-- The lighting part of the committed load as last handed on (R155). -/
  load : Nat
  deriving DecidableEq, Repr

/-- The sign sequencer (R161, R164 to R166). -/
structure Signs where
  stage : Nat
  entry : Nat
  /-- The moment the dwell timer runs out; `none` before the sequencer starts. -/
  dwellUntil : Option Nat
  firstHalf : Bool
  /-- The moment the flash clock next changes half. -/
  flashAt : Option Nat
  output : Eight Bool
  deriving DecidableEq, Repr

/-! ## The tool responder (chapter 10) -/

/-- Where a configuration write stands (R173). -/
inductive WritePhase where
  /-- The status is being polled. -/
  | polling
  /-- The written bytes are being read back. -/
  | readBack
  deriving DecidableEq, Repr

/-- The configuration write in flight (R172). -/
structure Write where
  offset : Nat
  data : List Byte
  sequence : Byte
  acceptedAt : Nat
  phase : WritePhase
  deriving DecidableEq, Repr

/-- What a pending restart still waits for (R174). -/
structure RestartWait where
  /-- The SENT or NOT SENT of the DONE answer to the restart. -/
  answer : Bool
  /-- The end of the write in flight when the restart was accepted, and of its answer. -/
  write : Bool
  deriving DecidableEq, Repr

/-- The tool responder (R175) and the memory port. -/
structure Tool where
  write : Option Write
  restart : Option RestartWait
  /-- What the last operation sent on the memory port: one list of bytes for each time the memory
  was selected (R173, R178). -/
  port : List (List Byte)
  deriving DecidableEq, Repr

/-! ## The whole block -/

/-- The state of the ZP-4720 and the queue of commands that wait. -/
structure State where
  /-- The model's clock, microseconds. -/
  now : Nat
  mode : Mode
  startup : Startup
  fallback : Fallback
  meas : Meas
  inputs : Inputs
  stage : Stage
  pumps : Pumps
  line : Line
  peers : PeerView
  supply : Supply
  gates : Gates
  lights : Lights
  signs : Signs
  tool : Tool
  /-- The model's own: free values used so far (log entries 12 and 13). -/
  free : Nat
  /-- The commands that wait, first in, first out. -/
  pending : List Instr
  deriving DecidableEq, Repr

/-- Why the block stops with a fault. NO command of this block does: the spec gives every row of
the table an effect, so no meaning raises one. -/
inductive Fault where
  /-- Raised by nothing: the host's interface asks for a type of faults, and this names that the
  part has none. Safe. -/
  | none
  deriving DecidableEq, Repr

/-- Why a command has no meaning here. -/
inductive Refusal where
  /-- Raised only by an arm of `exec` whose command has no meaning yet; there is none left. Safe:
  the model stops where the part goes on. -/
  | notModelled (mnemonic : String)
  deriving DecidableEq, Repr

/-! ## The state after reset -/

/-- A filtered input after reset (R21). -/
def Filter.reset {α : Type} : Filter α := ⟨none, none, 0, none, []⟩

/-- A chatter watch after reset (R21). -/
def Chatter.reset : Chatter := ⟨false, [], none⟩

/-- A loop after reset (R21). -/
def Loop.reset : Loop := ⟨.normal, 0, 0, 0, []⟩

/-- Level measurement after reset (R21). Before the image is read no sump is known, so the level
source stands at NOT FITTED until start-up sets it (log entry 4). -/
def Meas.reset : Meas where
  scanCount := 0
  lastScan := none
  sampleFrom := none
  levelDue := false
  faulted := false
  badRun := 0
  goodRun := 0
  codeA := none
  codeB := none
  current := ⟨none, none, none, none⟩
  luminance := none
  loopA := Loop.reset
  loopB := Loop.reset
  level := none
  source := .notFitted
  disagreeRun := none
  disagree := false
  rate := 0
  rateValid := false
  levelPrev := none
  rateTimer := none
  outflow := 0
  inflow := 0
  inflowValid := false

/-- The inputs of a gate channel after reset (R21). -/
def GateInputs.reset : GateInputs := ⟨Filter.reset, Filter.reset, Filter.reset⟩

/-- Every filtered input after reset (R21). -/
def Inputs.reset : Inputs where
  lowFloat := Filter.reset
  highFloat := Filter.reset
  probe := Filter.reset
  lowChatter := Chatter.reset
  highChatter := Chatter.reset
  probeChatter := Chatter.reset
  selector := ⟨Filter.reset, Filter.reset, Filter.reset, Filter.reset⟩
  feedback := ⟨Filter.reset, Filter.reset, Filter.reset, Filter.reset⟩
  gate := ⟨GateInputs.reset, GateInputs.reset⟩
  holdKey := Filter.reset
  forceCloseKey := Filter.reset
  reopenKey := Filter.reset
  panelResetKey := Filter.reset
  dayNight := Filter.reset
  supplyMode := Filter.reset

/-- Stage and demand after reset (R39). -/
def Stage.reset : Stage := ⟨none, 0, 0, 0, none, 0, 100, 0, false⟩

/-- A pump record after reset, in the state given (R68). -/
def Pump.reset (state : PumpState) : Pump where
  state := state
  selector := none
  attempt := none
  startedAt := none
  waitingSince := none
  history := []
  trouble := 0
  outcome := .clean
  lockout := none
  attemptFrom := none
  settling := false
  retryUntil := none
  failedAt := none
  runOnUntil := none
  restUntil := none
  overRun := 0
  openSince := none

/-- Pump control after reset (R68). Which pumps are fitted is known once the image is judged; until
then every place stands at NOT FITTED (log entry 4). -/
def Pumps.reset : Pumps where
  pump := ⟨Pump.reset .notFitted, Pump.reset .notFitted, Pump.reset .notFitted,
    Pump.reset .notFitted⟩
  duty := []

/-- The line counters after reset (R90). -/
def Counters.reset : Counters := ⟨0, 0, 0, 0, 0, 0, 0, 0, 0⟩

/-- The line controller after reset (R92), at the moment `now`. R92 gives LISTEN from the opening of
the LISTEN window; that the line state stands at LISTEN before it, too, is the model's DESIGN CHOICE
(log entry 41). -/
def Line.reset (now : Nat) : Line where
  state := .listen
  island := false
  window := .closed
  receiver := .hunting
  idleFrom := now
  report := none
  queue := []
  placed := 0
  changePending := false
  lastReportStart := none
  periodicAt := none
  sequence := 0
  islandFrom := none
  probeUntil := none
  clashUntil := none
  sending := none
  sendingFrom := 0
  counters := Counters.reset

/-- The peer view after reset (R108). -/
def PeerView.reset : PeerView := ⟨[], [], []⟩

/-- The supply block after reset (R126). -/
def Supply.reset : Supply where
  load := 0
  headroom := 0
  mode := .none
  intent := .none
  lastIntent := none
  lastStart := none
  formWaits := false
  entryWait := none
  shedOffset := 0
  shortfallUntil := none
  shedCallUntil := none
  restoreUntil := none
  deferrals := 0
  lastShed := none

/-- A gate channel after reset, in the state given (R146). -/
def Gate.reset (state : GateState) : Gate where
  state := state
  direction := none
  used := 0
  drive := none
  driveFrom := 0
  cause := none
  driftAt := none
  reopen := false
  closeDropped := none
  openDropped := none
  clearSince := none

/-- Gate control after reset (R146); the kinds of the channels are known once the image is judged
(log entry 4). -/
def Gates.reset : Gates := ⟨⟨Gate.reset .notFitted, Gate.reset .notFitted⟩, none⟩

/-- The lighting block after reset: every output at duty 200 (R158). The steps in use are fixed once
the image is judged; until then one step counts as in use (log entry 4). -/
def Lights.reset : Lights := ⟨⟨200, 200, 200, 200, 200, 200, 200, 200⟩, none, none, none, 1, 0⟩

/-- The sign sequencer after reset: every output off (R166). -/
def Signs.reset : Signs :=
  ⟨0, 0, none, true, none, ⟨false, false, false, false, false, false, false, false⟩⟩

/-- The tool responder after reset (R175). -/
def Tool.reset : Tool := ⟨none, none, []⟩

/-- The start-up record as a reset leaves it: the cause recorded, nothing read yet (R176). -/
def Startup.reset (cause : ResetCause) (oscillatorUntil : Option Nat) : Startup where
  cause := cause
  imageStatus := none
  oscillatorUntil := oscillatorUntil
  number := 0
  strapsRead := false
  activeImage := []
  settings := Settings.absent
  clockMissed := none

/-- Right after a power-on reset (R176): every block at its value after reset, every output at its
reset value, the oscillator start timer of 20 ms running, no command waiting. -/
def State.reset : State where
  now := 0
  mode := .oscillator
  startup := Startup.reset .powerOn (some 20000)
  fallback := ⟨none, ⟨false, false, false, false⟩⟩
  meas := Meas.reset
  inputs := Inputs.reset
  stage := Stage.reset
  pumps := Pumps.reset
  line := Line.reset 0
  peers := PeerView.reset
  supply := Supply.reset
  gates := Gates.reset
  lights := Lights.reset
  signs := Signs.reset
  tool := Tool.reset
  free := 0
  pending := []

end Sys2Proof.Machine
end

