-- ==== Sys2Proof/Machine/Ops.lean ====
section
/-! DEFINITION. Named operations over the model's containers, clock and input filters, and the
times that the spec fixes. -/

namespace Sys2Proof.Machine

/-! ## Times, in microseconds -/

/-- One millisecond. -/
def millis (n : Nat) : Nat := n * 1000

/-- One second. -/
def secs (n : Nat) : Nat := n * 1000000

/-- One converter scan, and in clock fallback the time from one sampling to the next: 20 ms (R1,
R19). -/
def scanTime : Nat := millis 20

/-- One bit time on the station line: 16 µs (R69). -/
def bitTime : Nat := 16

/-- The state after `dt` more microseconds of the model's clock (log entry 1). -/
def advance (dt : Nat) (s : State) : State := { s with now := s.now + dt }

/-- A timer that runs out at `t` has run out. -/
def ranOut (t : Option Nat) (s : State) : Bool :=
  match t with
  | some u => decide (u ≤ s.now)
  | none => false

/-- At least `d` have passed since the moment `t`; a moment never recorded counts as long past. -/
def passedSince (t : Option Nat) (d : Nat) (s : State) : Bool :=
  match t with
  | some u => decide (u + d ≤ s.now)
  | none => true

/-- A measure that began at `t` has lasted at least `d`; an absent measure has not. -/
def lastedFor (t : Option Nat) (d : Nat) (s : State) : Bool :=
  match t with
  | some u => decide (u + d ≤ s.now)
  | none => false

/-- A scan end has come at or after the moment `t + d` (R50, R51, R57, R151). -/
def scanEndSince (t : Option Nat) (d : Nat) (s : State) : Bool :=
  match t, s.meas.lastScan with
  | some u, some v => decide (u + d ≤ v)
  | _, _ => false

/-- A counter of the given maximum after adding `n` (section 4.3 of 00_scope.md: counters
saturate). -/
def saturate (maximum c n : Nat) : Nat := min maximum (c + n)

end Sys2Proof.Machine

namespace Sys2Proof

/-! ## Containers -/

/-- The place of channel `c`. -/
def Two.get {α : Type} (t : Two α) (c : Fin 2) : α :=
  match c with
  | 0 => t.c0
  | 1 => t.c1

/-- The same with channel `c`'s place set. -/
def Two.set {α : Type} (t : Two α) (c : Fin 2) (a : α) : Two α :=
  match c with
  | 0 => { t with c0 := a }
  | 1 => { t with c1 := a }

/-- Each place mapped. -/
def Two.map {α β : Type} (f : α → β) (t : Two α) : Two β := ⟨f t.c0, f t.c1⟩

/-- The place of pump `p`. -/
def Four.get {α : Type} (t : Four α) (p : Fin 4) : α :=
  match p with
  | 0 => t.p0
  | 1 => t.p1
  | 2 => t.p2
  | 3 => t.p3

/-- The same with pump `p`'s place set. -/
def Four.set {α : Type} (t : Four α) (p : Fin 4) (a : α) : Four α :=
  match p with
  | 0 => { t with p0 := a }
  | 1 => { t with p1 := a }
  | 2 => { t with p2 := a }
  | 3 => { t with p3 := a }

/-- Each place mapped. -/
def Four.map {α β : Type} (f : α → β) (t : Four α) : Four β :=
  ⟨f t.p0, f t.p1, f t.p2, f t.p3⟩

/-- Two containers mapped place by place. -/
def Four.map₂ {α β γ : Type} (f : α → β → γ) (t : Four α) (u : Four β) : Four γ :=
  ⟨f t.p0 u.p0, f t.p1 u.p1, f t.p2 u.p2, f t.p3 u.p3⟩

/-- The places in index order. -/
def Four.toList {α : Type} (t : Four α) : List α := [t.p0, t.p1, t.p2, t.p3]

/-- Each place mapped. -/
def Eight.map {α β : Type} (f : α → β) (t : Eight α) : Eight β :=
  ⟨f t.e0, f t.e1, f t.e2, f t.e3, f t.e4, f t.e5, f t.e6, f t.e7⟩

/-- Two containers mapped place by place. -/
def Eight.map₂ {α β γ : Type} (f : α → β → γ) (t : Eight α) (u : Eight β) : Eight γ :=
  ⟨f t.e0 u.e0, f t.e1 u.e1, f t.e2 u.e2, f t.e3 u.e3,
    f t.e4 u.e4, f t.e5 u.e5, f t.e6 u.e6, f t.e7 u.e7⟩

/-- The places in index order. -/
def Eight.toList {α : Type} (t : Eight α) : List α :=
  [t.e0, t.e1, t.e2, t.e3, t.e4, t.e5, t.e6, t.e7]

end Sys2Proof

namespace Sys2Proof.Machine

/-- The four pump indices in ascending order. -/
def pumpIndices : List (Fin 4) := [0, 1, 2, 3]

/-- The two channel numbers. -/
def channels : List (Fin 2) := [0, 1]

/-- The other gate channel. -/
def otherChannel (c : Fin 2) : Fin 2 :=
  match c with
  | 0 => 1
  | 1 => 0

/-- How many elements meet the test. -/
def countIf {α : Type} (p : α → Bool) : List α → Nat
  | [] => 0
  | a :: as => if p a then countIf p as + 1 else countIf p as

/-- The sum of a list of numbers. -/
def sumOf : List Nat → Nat
  | [] => 0
  | n :: ns => n + sumOf ns

/-- The element with the greatest key, the earliest in the list on equal keys. -/
def greatestBy {α : Type} (key : α → Nat) : List α → Option α
  | [] => none
  | a :: as =>
    match greatestBy key as with
    | none => some a
    | some b => if key a < key b then some b else some a

/-- The element with the least key, the earliest in the list on equal keys. -/
def leastBy {α : Type} (key : α → Nat) : List α → Option α
  | [] => none
  | a :: as =>
    match leastBy key as with
    | none => some a
    | some b => if key b < key a then some b else some a

/-- A list put in order of a key, equal keys keeping their order. -/
def insertBy {α : Type} (key : α → Nat) (a : α) : List α → List α
  | [] => [a]
  | b :: bs => if key a ≤ key b then a :: b :: bs else b :: insertBy key a bs

/-- A list put in order of a key. -/
def orderBy {α : Type} (key : α → Nat) : List α → List α
  | [] => []
  | a :: as => insertBy key a (orderBy key as)

/-! ## The stable-state filter (R10) -/

/-- The candidate count at which a candidate becomes stable: five equal samples (R10). -/
def filterCount : Nat := 5

/-- One sample through the filter (R10): equal to the stable state it returns the count to 0, equal to
the candidate it adds 1, and otherwise it is the new candidate with count 1. At the fifth equal
sample the stable state takes the candidate, the count returns to 0, and the change waits for the
input's own row to hand it to the owner (log entry 2). -/
def Filter.sample {α : Type} [DecidableEq α] (f : Filter α) (v : α) : Filter α :=
  if f.stable = some v then { f with count := 0 }
  else if f.candidate = some v then
    if f.count + 1 < filterCount then { f with count := f.count + 1 }
    else { f with stable := some v, count := 0, waiting := f.waiting ++ [v] }
  else { f with candidate := some v, count := 1 }

/-- The change of stable state that the owner receives next. -/
def Filter.next {α : Type} (f : Filter α) : Option α := f.waiting.head?

/-- A change of stable state waits for its owner (log entry 2). -/
def Filter.due {α : Type} (f : Filter α) : Bool := f.next.isSome

/-- The owner receives the oldest change that waits (R10; log entry 2). -/
def Filter.take {α : Type} (f : Filter α) : Filter α :=
  match f.waiting with
  | [] => f
  | v :: vs => { f with given := some v, waiting := vs }

/-- One sample through the filter of the gate hold key: the move out of UNKNOWN to INACTIVE has no
row of its own and is taken at once (R10; log entry 2). -/
def Filter.sampleHold (f : Filter Switch) (v : Switch) : Filter Switch :=
  let g := f.sample v
  if decide (g.next = some .inactive) && decide (g.given ≠ some .active) then g.take else g

/-- One sample through the filter of a key of which only the press is an event (reopen key,
panel reset key): its return to INACTIVE is taken at once (R10; log entry 2). -/
def Filter.samplePress (f : Filter Switch) (v : Switch) : Filter Switch :=
  let g := f.sample v
  if decide (g.next = some .inactive) then g.take else g

/-- The position a selector's two pins decode to (R11). -/
def decodeSelector (autoPin handPin : Bool) : Position :=
  match autoPin, handPin with
  | true, false => .auto
  | false, true => .hand
  | _, _ => .off

end Sys2Proof.Machine
end

