-- ==== Sys2Proof/Machine/Crc.lean ====
section
/-! DEFINITION. The 16-bit check of frames and of the configuration image (R71, R178), and the
byte order of multi-byte numbers (R182). -/

namespace Sys2Proof.Machine

/-- One bit of the check register: polynomial x^16 + x^12 + x^5 + 1, most significant bit first
(R71). -/
def crcBit (c : BitVec 16) : BitVec 16 :=
  if c.getMsbD 0 then (c <<< 1) ^^^ 0x1021#16 else c <<< 1

/-- One byte into the check register, most significant bit first (R71). -/
def crcByte (c : BitVec 16) (b : Byte) : BitVec 16 :=
  crcBit (crcBit (crcBit (crcBit (crcBit (crcBit (crcBit (crcBit
    (c ^^^ (b.setWidth 16 <<< 8)))))))))

/-- The check over bytes in the order they are sent, from 0xFFFF, not inverted (R71). -/
def crcFrom (c : BitVec 16) : List Byte → BitVec 16
  | [] => c
  | b :: bs => crcFrom (crcByte c b) bs

/-- The check of a run of bytes (R71). -/
def crc16 (bytes : List Byte) : BitVec 16 := crcFrom 0xFFFF#16 bytes

/-- A 16-bit number as two bytes, high byte first (R182). -/
def word16 (n : Nat) : List Byte := [BitVec.ofNat 8 (n / 256), BitVec.ofNat 8 n]

/-- A number of at most one byte. -/
def byte8 (n : Nat) : Byte := BitVec.ofNat 8 n

/-- A signed number as two bytes, two's complement, high byte first (R182). -/
def signed16 (i : Int) : List Byte := word16 (BitVec.ofInt 16 i).toNat

/-- A signed number as four bytes, two's complement, high byte first (R182). -/
def signed32 (i : Int) : List Byte :=
  let n := (BitVec.ofInt 32 i).toNat
  word16 (n / 65536) ++ word16 (n % 65536)

/-- The number that two bytes give, high byte first (R182). -/
def read16 (high low : Byte) : Nat := high.toNat * 256 + low.toNat

/-- The number that byte `i` of a run of bytes gives. -/
def byteAt (bytes : List Byte) (i : Nat) : Nat := (bytes.getD i 0).toNat

/-- The number that bytes `i` and `i + 1` give, high byte first (R182). -/
def wordAt (bytes : List Byte) (i : Nat) : Nat := read16 (bytes.getD i 0) (bytes.getD (i + 1) 0)

end Sys2Proof.Machine
end

