-- ==== Sys2Proof/Machine/Image.lean ====
section
/-! DEFINITION. The configuration image: its layout (R186) and how start-up judges and clamps it
(R178). -/

namespace Sys2Proof.Machine

/-- The number of bytes of the image (R178). -/
def imageSize : Nat := 256

/-- The bytes read, as 256 bytes: the image is read in one pass from address 0 (R178). -/
def imageBytes (bytes : List Byte) : List Byte :=
  (List.range imageSize).map fun i => bytes.getD i 0

/-- A field brought to the nearer limit of its range (R178). -/
def clampTo (low high n : Nat) : Nat := max low (min high n)

/-- Gate kind codes; a code beyond the known kinds is taken as NONE (R178, R184). -/
def gateKindOf (code : Nat) : GateKind :=
  match code with
  | 1 => .barrier
  | 2 => .floodgate
  | _ => .none

/-- Circuit kind codes; a code beyond the known kinds is taken as UNUSED (R178, R184). -/
def circuitKindOf (code : Nat) : CircuitKind :=
  match code with
  | 1 => .emergency
  | 2 => .entrance
  | 3 => .interior
  | _ => .unused

/-- The two-bit sign mode codes (12.4). -/
def signModeOf (code : Nat) : SignMode :=
  match code with
  | 0 => .off
  | 1 => .on
  | 2 => .flash
  | _ => .flashInverted

/-- The mode of sign output `k` in a scene's two mode bytes (12.4). -/
def sceneMode (modes k : Nat) : SignMode := signModeOf (modes / 4 ^ k % 4)

/-- The sixteen entries a program's eight bytes from `i` hold: byte j holds entry 2j in its low
four bits and entry 2j + 1 in its high four bits (12.4). -/
def programEntries (image : List Byte) (i : Nat) : List Nat :=
  ((List.range 8).map fun j =>
    [byteAt image (i + j) % 16, byteAt image (i + j) / 16]).flatten

/-- One gate channel's fields from offset `i`, as they stand in the image (R186). -/
def rawGate (image : List Byte) (i : Nat) : GateSettings :=
  ⟨gateKindOf (byteAt image i), byteAt image (i + 1), wordAt image (i + 2)⟩

/-- One circuit's fields from offset `i`, as they stand in the image (R186). -/
def rawCircuit (image : List Byte) (i : Nat) : CircuitSettings :=
  ⟨circuitKindOf (byteAt image i), wordAt image (i + 1), byteAt image (i + 3),
    byteAt image (i + 4), byteAt image (i + 5)⟩

/-- One entrance step's fields from offset `i` (R186). -/
def rawStep (image : List Byte) (i : Nat) : EntranceStep :=
  ⟨wordAt image i, byteAt image (i + 2)⟩

/-- One scene's fields from offset `i` (R186). -/
def rawScene (image : List Byte) (i : Nat) : Scene :=
  let m := wordAt image i
  ⟨⟨sceneMode m 0, sceneMode m 1, sceneMode m 2, sceneMode m 3, sceneMode m 4, sceneMode m 5,
    sceneMode m 6, sceneMode m 7⟩, byteAt image (i + 2)⟩

/-- The settings as the image's bytes give them, before clamping (R186). -/
def rawSettings (image : List Byte) : Settings where
  sumpFitted := byteAt image 3 % 2 = 1
  probeFitted := byteAt image 3 / 2 % 2 = 1
  variableTrim := byteAt image 3 / 4 % 2 = 1
  pairing := byteAt image 3 / 8 % 2 = 1
  pumpCount := byteAt image 4
  span := wordAt image 5
  area := wordAt image 7
  agreeBand := wordAt image 9
  t0 := wordAt image 11
  t1 := wordAt image 13
  t2 := wordAt image 15
  t3 := wordAt image 17
  t4 := wordAt image 19
  hysteresis := wordAt image 21
  ratedFlow := wordAt image 23
  pRun := wordAt image 25
  pIn := wordAt image 27
  settleTime := byteAt image 29
  runOnTime := wordAt image 30
  restTime := wordAt image 32
  startsPerHour := byteAt image 34
  troubleThreshold := byteAt image 35
  minSpeed := byteAt image 36
  noLoadCode := wordAt image 37
  settleCode := wordAt image 39
  tripCode := wordAt image 41
  spacing := byteAt image 43
  budgetGenerator := wordAt image 44
  budgetMains := wordAt image 46
  islandShare := byteAt image 48
  restoreMargin := wordAt image 49
  descentHold := wordAt image 51
  gate := ⟨rawGate image 53, rawGate image 57⟩
  circuit := ⟨rawCircuit image 61, rawCircuit image 67, rawCircuit image 73,
    rawCircuit image 79, rawCircuit image 85, rawCircuit image 91, rawCircuit image 97,
    rawCircuit image 103⟩
  emergencyLevel := byteAt image 109
  evacuationLevel := byteAt image 110
  step := ⟨rawStep image 111, rawStep image 114, rawStep image 117, rawStep image 120,
    rawStep image 123, rawStep image 126, rawStep image 129, rawStep image 132⟩
  luminanceHysteresis := wordAt image 135
  scene := (List.range 16).map fun i => rawScene image (137 + 3 * i)
  program := (List.range 5).map fun j =>
    (programEntries image (186 + 9 * j)).take (clampTo 1 16 (byteAt image (185 + 9 * j)))

/-- A gate channel's numeric fields brought to their ranges (R186). -/
def clampGate (g : GateSettings) : GateSettings :=
  { g with travelLimit := clampTo 2 180 g.travelLimit, motorLoad := clampTo 0 20000 g.motorLoad }

/-- A circuit's numeric fields brought to their ranges (R186). -/
def clampCircuit (c : CircuitSettings) : CircuitSettings :=
  { c with
    rated := clampTo 0 5000 c.rated
    floor := clampTo 0 200 c.floor
    day := clampTo 0 200 c.day
    night := clampTo 0 200 c.night }

/-- An entrance step's fields brought to their ranges (R186). -/
def clampStep (e : EntranceStep) : EntranceStep :=
  ⟨clampTo 0 4095 e.threshold, clampTo 0 200 e.duty⟩

/-- A scene's dwell brought to its range (R186). -/
def clampScene (sc : Scene) : Scene := { sc with dwell := clampTo 1 120 sc.dwell }

/-- Each numeric field brought to the nearer limit of its range, and P_in below P_run raised to
P_run (R178, R186). -/
def clampSettings (c : Settings) : Settings :=
  let span := clampTo 500 10000 c.span
  let pRun := clampTo 10 5000 c.pRun
  { c with
    pumpCount := clampTo 0 4 c.pumpCount
    span := span
    area := clampTo 1 400 c.area
    agreeBand := clampTo 50 500 c.agreeBand
    t0 := clampTo 0 span c.t0
    t1 := clampTo 0 span c.t1
    t2 := clampTo 0 span c.t2
    t3 := clampTo 0 span c.t3
    t4 := clampTo 0 span c.t4
    hysteresis := clampTo 20 500 c.hysteresis
    ratedFlow := clampTo 1 2000 c.ratedFlow
    pRun := pRun
    pIn := clampTo pRun 20000 c.pIn
    settleTime := clampTo 2 20 c.settleTime
    runOnTime := clampTo 0 300 c.runOnTime
    restTime := clampTo 10 600 c.restTime
    startsPerHour := clampTo 4 20 c.startsPerHour
    troubleThreshold := clampTo 1 7 c.troubleThreshold
    minSpeed := clampTo 40 90 c.minSpeed
    noLoadCode := clampTo 0 4095 c.noLoadCode
    settleCode := clampTo 0 4095 c.settleCode
    tripCode := clampTo 0 4095 c.tripCode
    spacing := clampTo 2 30 c.spacing
    budgetGenerator := clampTo 0 50000 c.budgetGenerator
    budgetMains := clampTo 0 50000 c.budgetMains
    islandShare := clampTo 0 100 c.islandShare
    restoreMargin := clampTo 0 5000 c.restoreMargin
    descentHold := clampTo 30 900 c.descentHold
    gate := c.gate.map clampGate
    circuit := c.circuit.map clampCircuit
    emergencyLevel := clampTo 0 200 c.emergencyLevel
    evacuationLevel := clampTo 0 200 c.evacuationLevel
    step := c.step.map clampStep
    luminanceHysteresis := clampTo 0 1000 c.luminanceHysteresis
    scene := c.scene.map clampScene }

/-- The settings a block takes from the image (R178). -/
def settingsOf (image : List Byte) : Settings := clampSettings (rawSettings image)

/-- Every kind code names a known kind (R178). -/
def kindsKnown (image : List Byte) : Bool :=
  decide (byteAt image 53 ≤ 2) && decide (byteAt image 57 ≤ 2) &&
    (List.range 8).all fun i => decide (byteAt image (61 + 6 * i) ≤ 3)

/-- Every program length lies in 1 to 16 (R160). -/
def programLengthsInRange (image : List Byte) : Bool :=
  (List.range 5).all fun j =>
    decide (1 ≤ byteAt image (185 + 9 * j)) && decide (byteAt image (185 + 9 * j) ≤ 16)

/-- No field is changed by step 3 of R178. -/
def imageInRange (image : List Byte) : Bool :=
  decide (settingsOf image = rawSettings image) && kindsKnown image &&
    programLengthsInRange image

/-- All 256 bytes read the same value, 0x00 or 0xFF (R178). -/
def imageAbsent (image : List Byte) : Bool :=
  image.all (fun b => decide (b = 0x00#8)) || image.all (fun b => decide (b = 0xFF#8))

/-- The marker, the layout version and the CRC are as R178 asks. -/
def imageMarked (image : List Byte) : Bool :=
  decide (byteAt image 0 = 0xC3) && decide (byteAt image 1 = 0x4D) &&
    decide (byteAt image 2 = 1) &&
    decide ((crc16 (image.take 254)).toNat = wordAt image 254)

/-- T0 < T1 < T2 < T3 < T4 ≤ span (R178). -/
def thresholdsOrdered (c : Settings) : Bool :=
  decide (c.t0 < c.t1) && decide (c.t1 < c.t2) && decide (c.t2 < c.t3) &&
    decide (c.t3 < c.t4) && decide (c.t4 ≤ c.span)

/-- The image status: the first of R178's tests that decides. -/
def judgeImage (image : List Byte) : ImageStatus :=
  if imageAbsent image then .absent
  else if !imageMarked image then .invalid
  else if !thresholdsOrdered (settingsOf image) then .invalid
  else if imageInRange image then .valid
  else .clamped

/-- The settings that start-up puts in force for an image of the status given: those of the image;
with status INVALID the same with S and D at their defaults; with status ABSENT nothing fitted
(R178). -/
def settingsInForce (status : ImageStatus) (image : List Byte) : Settings :=
  match status with
  | .valid => settingsOf image
  | .clamped => settingsOf image
  | .invalid => { settingsOf image with spacing := 5, descentHold := 120 }
  | .absent => Settings.absent

end Sys2Proof.Machine
end

