-- ==== Sys2Proof/Machine/Flags.lean ====
section
/-! DEFINITION. What the blocks read of one another, computed from the state: reported float states,
loop levels, pump counts, interlocks, the budget mode and the headroom, the lighting targets, the
fault flags, the contactor drives and the station-fault relay. -/

namespace Sys2Proof.Machine

/-! ## The settings and the mode -/

/-- The settings in force. -/
abbrev State.settings (s : State) : Settings := s.startup.settings

/-- The image status is VALID or CLAMPED: the blocks take their settings from the image (R178). -/
def imageTrusted (s : State) : Bool :=
  decide (s.startup.imageStatus = some .valid) || decide (s.startup.imageStatus = some .clamped)

/-- Normal operation (R178). -/
def operating (s : State) : Bool := decide (s.mode = .operating)

/-- The line controller runs: normal operation and configuration fallback (R91). -/
def lineRuns (s : State) : Bool :=
  decide (s.mode = .operating) || decide (s.mode = .configFallback)

/-- Fallback of either kind (R179, R180). -/
def inFallback (s : State) : Bool :=
  decide (s.mode = .configFallback) || decide (s.mode = .clockFallback)

/-- The STRAP fault: the straps were read as 0 or 15 (R177). -/
def strapFault (s : State) : Bool :=
  s.startup.strapsRead && (decide (s.startup.number = 0) || decide (s.startup.number = 15))

/-- The LISTEN window runs (R87). -/
def windowRuns (s : State) : Bool := decide (s.line.window ≠ .closed)

/-! ## Floats and probe (R12, R18, R19)

Owners act on the reported state of the changes they have received. -/

/-- The reported state that a stable state gives: WET in CHATTER, otherwise the stable state (R12). -/
def reportedOf (stable : Option Water) (c : Chatter) : Option Water :=
  if c.chatter then some .wet else stable

/-- The floats are filtered: at a sump station, in configuration fallback, and in a clock fallback
that was entered before an image was trusted (R18, R19). -/
def floatsFiltered (s : State) : Bool := s.settings.sumpFitted || !imageTrusted s

/-- The probe is watched for chatter and reports: where a trusted image has it fitted (R18, R19). -/
def probeWatched (s : State) : Bool := s.settings.probeFitted && imageTrusted s

/-- The low float's reported state. -/
def lowReported (s : State) : Option Water :=
  reportedOf s.inputs.lowFloat.given s.inputs.lowChatter

/-- The high float's reported state. -/
def highReported (s : State) : Option Water :=
  reportedOf s.inputs.highFloat.given s.inputs.highChatter

/-- The probe's reported state: DRY where it is not evaluated (R18, R19). -/
def probeReported (s : State) : Option Water :=
  if probeWatched s then reportedOf s.inputs.probe.given s.inputs.probeChatter else some .dry

/-- The low float reports WET (R62). -/
def lowWet (s : State) : Bool := decide (lowReported s = some .wet)

/-- The high float reports WET. -/
def highWet (s : State) : Bool := decide (highReported s = some .wet)

/-- The probe reports WET. -/
def probeWet (s : State) : Bool := decide (probeReported s = some .wet)

/-- CHATTER on any float or the probe (R12). -/
def anyChatter (s : State) : Bool :=
  s.inputs.lowChatter.chatter || s.inputs.highChatter.chatter || s.inputs.probeChatter.chatter

/-! ## Loops and level (R6, R7, R18, R19) -/

/-- The number of samples an average list holds when full (R6). -/
def averageLength : Nat := 8

/-- The loops are evaluated: at a sump station, and in configuration fallback (R18, R19). R19 runs the loop
checks there 'as in normal operation', where R18 leaves them unevaluated without the sump; that they
run in configuration fallback whatever the sump is the model's DESIGN CHOICE (log entry 61). -/
def loopsEvaluated (s : State) : Bool :=
  (operating s && s.settings.sumpFitted) || decide (s.mode = .configFallback)

/-- A loop's mean: the truncated mean of eight codes (R6). -/
def loopMean (l : Loop) : Option Nat :=
  if l.average.length = averageLength then some (sumOf l.average / averageLength) else none

/-- A loop is valid: NORMAL, eight samples, converter GOOD (R6). -/
def loopValid (s : State) (l : Loop) : Bool :=
  decide (l.fault = .normal) && decide (l.average.length = averageLength) && !s.meas.faulted

/-- The loop level of a mean c: floor((c − 640) × span ÷ 2560) with c clamped to 640 to 3200
(R7). -/
def levelOfMean (span c : Nat) : Nat := (max 640 (min 3200 c) - 640) * span / 2560

/-- A loop's level: none unless the loop is valid, and none in fallback (R6, R7, R19). -/
def loopLevel (s : State) (l : Loop) : Option Nat :=
  if operating s && loopValid s l then (loopMean l).map (levelOfMean s.settings.span) else none

/-- Level LOST at a sump station (R20, R181). -/
def levelLost (s : State) : Bool := s.settings.sumpFitted && decide (s.meas.source = .lost)

/-! ## Pumps (chapters 2 and 3) -/

/-- The pump record at index `p`. -/
abbrev State.pump (s : State) (p : Fin 4) : Pump := s.pumps.pump.get p

/-- The stable position of a pump's selector as its record holds it; `none` is UNKNOWN (R40). -/
def selectorOf (s : State) (p : Fin 4) : Option Position := (s.pump p).selector

/-- The selector is at AUTO or HAND. -/
def selectorOn (s : State) (p : Fin 4) : Bool :=
  decide (selectorOf s p = some .auto) || decide (selectorOf s p = some .hand)

/-- The selector is at HAND. -/
def selectorHand (s : State) (p : Fin 4) : Bool := decide (selectorOf s p = some .hand)

/-- The selector input of output `p` stands at AUTO or HAND: in fallback the records stand, and the
fallback logic reads the inputs (R67, R180). -/
def selectorInputOn (s : State) (p : Fin 4) : Bool :=
  decide ((s.inputs.selector.get p).given = some .auto) ||
    decide ((s.inputs.selector.get p).given = some .hand)

/-- The states in which a pump's contactor drive is energised (R41). -/
def PumpState.energised (st : PumpState) : Bool :=
  match st with
  | .starting | .running | .runOn => true
  | _ => false

/-- RUNNING or RUN-ON. -/
def PumpState.turning (st : PumpState) : Bool :=
  match st with
  | .running | .runOn => true
  | _ => false

/-- The history has room for one more entry (R56). -/
def historyRoom (s : State) (p : Pump) : Bool :=
  decide (p.history.length < s.settings.startsPerHour)

/-- A pump in OFF is eligible (R32). A pump in OFF is not LOCKED-OUT. -/
def eligible (s : State) (p : Fin 4) : Bool :=
  decide ((s.pump p).state = .off) && selectorOn s p && historyRoom s (s.pump p)

/-- n_running: RUNNING, RUN-ON or STARTING (R32). -/
def runningOrStarting (s : State) : Nat :=
  countIf (fun p => (s.pump p).state.energised) pumpIndices

/-- n_avail: in service, waiting or in retry, or OFF and eligible (R32). -/
def available (s : State) : Nat :=
  countIf (fun p =>
    match (s.pump p).state with
    | .running | .runOn | .starting | .waiting | .retryWait => true
    | .off => eligible s p
    | _ => false) pumpIndices

/-- The pumps in service as demand counts them, w: RUNNING, STARTING, WAITING, RETRY-WAIT (R43). -/
def inService (s : State) : Nat :=
  countIf (fun p =>
    match (s.pump p).state with
    | .running | .starting | .waiting | .retryWait => true
    | _ => false) pumpIndices

/-- The running pump count: RUNNING or RUN-ON (R65). -/
def runningCount (s : State) : Nat :=
  countIf (fun p => (s.pump p).state.turning) pumpIndices

/-- A pump of the station is in STARTING. -/
def anyStarting (s : State) : Bool :=
  pumpIndices.any fun p => decide ((s.pump p).state = .starting)

/-- The start candidate: the first HAND pump in WAITING by duty order, else the first pump in
WAITING; none while a pump is in STARTING, nor while the low float does not report WET
(R48, R62). R48 re-forms it at moves into or out of WAITING or STARTING; that a selector between AUTO
and HAND of a pump already in WAITING re-forms it, too, is the model's DESIGN CHOICE (log entry
51). -/
def candidate (s : State) : Option (Fin 4) :=
  if anyStarting s || !lowWet s then none
  else
    match s.pumps.duty.find? (fun p => decide ((s.pump p).state = .waiting) && selectorHand s p) with
    | some p => some p
    | none => s.pumps.duty.find? (fun p => decide ((s.pump p).state = .waiting))

/-- The attention flag: trouble at or above the threshold (R60). -/
def attention (s : State) (p : Pump) : Bool := decide (s.settings.troubleThreshold ≤ p.trouble)

/-- The worst pump, index and trouble count: the fitted pump with the highest count, the lower
index on equal counts; pump 0 with count 0 where none is fitted (R61). -/
def worstPump (s : State) : Nat × Nat :=
  match greatestBy (fun p : Fin 4 => (s.pump p).trouble)
      (pumpIndices.filter fun p => decide ((s.pump p).state ≠ .notFitted)) with
  | some p => (p.val, (s.pump p).trouble)
  | none => (0, 0)

/-- The trim pump: of the pumps in RUNNING or RUN-ON, the one whose start ended latest (R36). -/
def trimPump (s : State) : Option (Fin 4) :=
  greatestBy (fun p : Fin 4 => ((s.pump p).startedAt.getD 0))
    (pumpIndices.filter fun p => (s.pump p).state.turning)

/-- The fallback logic's output `p`: energised while a run is in progress, its time has passed, its
selector is at AUTO or HAND and the low float reports WET (R180). -/
def fallbackOutput (s : State) (p : Fin 4) : Bool :=
  s.fallback.run.isSome && s.fallback.passed.get p && selectorInputOn s p && lowWet s

/-- The contactor drive of output `p` (R41, R67, R180). -/
def contactor (s : State) (p : Fin 4) : Bool :=
  if operating s then (s.pump p).state.energised
  else if inFallback s then fallbackOutput s p
  else false

/-- The pumps' part of the committed load (R65). -/
def pumpsLoad (s : State) : Nat :=
  sumOf (pumpIndices.map fun p =>
    match (s.pump p).state with
    | .starting => s.settings.pIn
    | .running | .runOn => s.settings.pRun
    | _ => 0)

/-! ## Gates (chapter 7) -/

/-- The channel record at `c`. -/
abbrev State.gate (s : State) (c : Fin 2) : Gate := s.gates.channel.get c

/-- What channel `c` drives. -/
def gateKind (s : State) (c : Fin 2) : GateKind := (s.settings.gate.get c).kind

/-- A flood gate with a paired barrier on the other channel (R127). -/
def pairedFloodgate (s : State) (c : Fin 2) : Bool :=
  s.settings.pairing && decide (gateKind s c = .floodgate) &&
    decide (gateKind s (otherChannel c) = .barrier)

/-- The gate hold key is stably ACTIVE. -/
def holdActive (s : State) : Bool := decide (s.inputs.holdKey.given = some .active)

/-- The force-close key is stably ACTIVE. -/
def forceCloseActive (s : State) : Bool := decide (s.inputs.forceCloseKey.given = some .active)

/-- The barrier interlock of a flood gate holds (R131). -/
def interlock (s : State) (c : Fin 2) : Bool :=
  !pairedFloodgate s c || decide ((s.gate (otherChannel c)).state = .closed) || forceCloseActive s

/-- The channel may be in a closing as far as the interlock goes: a barrier always, a flood gate
while its interlock holds (R131). -/
def closingAllowed (s : State) (c : Fin 2) : Bool :=
  decide (gateKind s c ≠ .floodgate) || interlock s c

/-- A limit of channel `c` is stably ACTIVE at the last scan end, received by its own row or not (R141,
R143; log entry 2). -/
def limitActive (s : State) (c : Fin 2) (l : LimitId) : Bool :=
  match l with
  | .openLimit => decide ((s.inputs.gate.get c).openLimit.stable = some .active)
  | .closedLimit => decide ((s.inputs.gate.get c).closedLimit.stable = some .active)

/-- The obstruction input of channel `c` is stably ACTIVE at the last scan end, received by its own row
or not (R130, R135, R142; log entry 2). -/
def obstructed (s : State) (c : Fin 2) : Bool :=
  decide ((s.inputs.gate.get c).obstruction.stable = some .active)

/-- The obstruction input of channel `c` is stably CLEAR at the last scan end, with no change of it
waiting (R131, R133). -/
def laneClear (s : State) (c : Fin 2) : Bool :=
  decide ((s.inputs.gate.get c).obstruction.stable = some .inactive) &&
    !(s.inputs.gate.get c).obstruction.due

/-- The travel used as it stands: what the drive ran before, and since it last came on (R128). -/
def travelUsed (s : State) (g : Gate) : Nat :=
  match g.drive with
  | some _ => g.used + (s.now - g.driveFrom)
  | none => g.used

/-- The gates' part of the committed load: the motor loads of the channels whose drive is on
(R129). -/
def gatesLoad (s : State) : Nat :=
  sumOf (channels.map fun c =>
    if (s.gate c).drive.isSome then (s.settings.gate.get c).motorLoad else 0)

/-- A channel is moving: CLOSING or OPENING, the dead time included (R128). -/
def anyMoving (s : State) : Bool :=
  channels.any fun c =>
    decide ((s.gate c).state = .closing) || decide ((s.gate c).state = .opening)

/-! ## Supply (chapter 6) -/

/-- The budget B (R110). -/
def budget (s : State) : Nat :=
  match s.inputs.supplyMode.given with
  | some .mains => s.settings.budgetMains
  | some .generator => s.settings.budgetGenerator
  | none => min s.settings.budgetMains s.settings.budgetGenerator

/-- The sum of the claims of all present entries (R100). -/
def claimSum (s : State) : Nat := sumOf (s.peers.table.map fun e => e.claim.getD 0)

/-- The sum of the inrush of the reservation entries of other senders (R111). -/
def othersInrush (s : State) : Nat :=
  sumOf (s.peers.reservations.map fun r =>
    if r.sender = s.startup.number then 0 else r.inrush)

/-- The budget mode that the line state and the window choose (R111). -/
def budgetModeOf (s : State) : BudgetMode :=
  if windowRuns s then .none
  else
    match s.line.state with
    | .listen => .none
    | .onLine => if s.line.island then .island else .peer
    | .lineFault => .island
    | .clash => .island

/-- The headroom H in the budget mode in force (R111). -/
def headroomOf (s : State) : Int :=
  match s.supply.mode with
  | .island => (budget s * s.settings.islandShare / 100 : Nat) - (s.supply.load : Int)
  | _ => (budget s : Int) - s.supply.load - claimSum s - othersInrush s

/-- H covers the inrush of a pump (R113, R117, R119). -/
def coversStart (s : State) : Bool := decide ((s.settings.pIn : Int) ≤ s.supply.headroom)

/-- The station is short for a start (R121). -/
def short (s : State) : Bool :=
  (candidate s).isSome && !coversStart s && decide (s.supply.mode ≠ .none)

/-! ## Lighting (chapter 8) -/

/-- How many steps after the one with threshold `t` are in use (R150). -/
def stepsAfter (t : Nat) : List EntranceStep → Nat
  | [] => 0
  | e :: es => if t < e.threshold then stepsAfter e.threshold es + 1 else 0

/-- The number of entrance steps in use, 1 to 8: step 0 always, its threshold taken as 0
(R150). -/
def stepsInUse (c : Settings) : Nat := stepsAfter 0 (c.step.toList.drop 1) + 1

/-- The threshold of entrance step `k` (R150). -/
def stepThreshold (c : Settings) (k : Nat) : Nat :=
  if k = 0 then 0 else ((c.step.toList.drop k).head?.map (·.threshold)).getD 0

/-- The duty of entrance step `k`. -/
def stepDuty (c : Settings) (k : Nat) : Nat :=
  ((c.step.toList.drop k).head?.map (·.duty)).getD 0

/-- Duty for full output (section 4.1 of 00_scope.md). -/
def fullDuty : Nat := 200

/-- The evacuation level where it applies: at site stage 3 or 4 (R149). -/
def evacuation (s : State) : Nat :=
  if 3 ≤ s.stage.site then s.settings.evacuationLevel else 0

/-- A circuit's source level (R148). -/
def sourceLevel (s : State) (c : CircuitSettings) : Nat :=
  match c.kind with
  | .unused => 0
  | .emergency => s.settings.emergencyLevel
  | .interior =>
    match s.inputs.dayNight.given with
    | some .day => c.day
    | some .night => c.night
    | none => max c.day c.night
  | .entrance =>
    match s.lights.step with
    | some k => stepDuty s.settings k
    | none => fullDuty

/-- A circuit's target; an UNUSED circuit has none (R147, R149). -/
def target (s : State) (c : CircuitSettings) : Option Nat :=
  match c.kind with
  | .unused => none
  | _ => some (max (sourceLevel s c) (max c.floor (evacuation s)))

/-- A circuit is sheddable: ENTRANCE or INTERIOR (R147). -/
def sheddable (c : CircuitSettings) : Bool :=
  decide (c.kind = .entrance) || decide (c.kind = .interior)

/-- A circuit's applied duty (R153); an UNUSED circuit stands at 0 (R147). -/
def appliedDuty (s : State) (c : CircuitSettings) : Nat :=
  match target s c with
  | none => 0
  | some t =>
    if sheddable c then max (t - s.supply.shedOffset) (max c.floor (evacuation s)) else t

/-- The lighting part of the committed load for the duties given (R155). -/
def lightingLoad (c : Settings) (duty : Eight Nat) : Nat :=
  sumOf (Eight.toList (Eight.map₂ (fun (k : CircuitSettings) (d : Nat) =>
    if k.kind = .unused then 0 else k.rated * d / fullDuty) c.circuit duty))

/-- Shedding can still take load: a fitted ENTRANCE or INTERIOR circuit stands above its floor
(R156). -/
def canShed (s : State) : Bool :=
  (Eight.toList (Eight.map₂ (fun (k : CircuitSettings) (d : Nat) =>
    sheddable k && decide (k.floor < d)) s.settings.circuit s.lights.duty)).any id

/-! ## Fault flags and the station-fault relay (R181, R183) -/

/-- A pump is in LOCKED-OUT. -/
def anyLockedOut (s : State) : Bool :=
  pumpIndices.any fun p => decide ((s.pump p).state = .lockedOut)

/-- A gate channel is in FAULT. -/
def anyGateFault (s : State) : Bool :=
  channels.any fun c => decide ((s.gate c).state = .fault)

/-- Image status INVALID or ABSENT. -/
def imageBad (s : State) : Bool :=
  decide (s.startup.imageStatus = some .invalid) || decide (s.startup.imageStatus = some .absent)

/-- A loop's fault state code (R183). -/
def LoopFault.code (f : LoopFault) : Nat :=
  match f with
  | .normal => 0
  | .opened => 1
  | .over => 2

/-- A flag as a number. -/
def flag (b : Bool) : Nat := if b then 1 else 0

/-- The fault flags, bit 0 first (R183). -/
def faultFlags (s : State) : Nat :=
  flag s.meas.faulted + 2 * s.meas.loopA.fault.code + 8 * s.meas.loopB.fault.code +
    32 * flag s.meas.disagree + 64 * flag (anyChatter s) + 128 * flag (levelLost s) +
    256 * flag (anyLockedOut s) + 512 * flag (anyGateFault s) + 1024 * flag (strapFault s) +
    2048 * flag (imageBad s)

/-- A fault that drops the station-fault relay is present (R181). -/
def faultPresent (s : State) : Bool :=
  inFallback s || strapFault s || imageBad s || decide (s.line.state = .lineFault) ||
    decide (s.line.state = .clash) || s.meas.faulted || levelLost s || anyLockedOut s ||
    anyGateFault s || anyChatter s || s.meas.disagree

/-- The station-fault relay is energised: after the opening of the LISTEN window, while no fault is
present (R181). -/
def relayEnergised (s : State) : Bool := operating s && !faultPresent s

/-! ## The line drive (R69, R70) -/

/-- The levels of one byte on the line, first bit first: the start bit low, eight data bits with the
least significant first, the stop bit high (R70). -/
def byteLevels (b : Byte) : List Bool :=
  [false, b.getLsbD 0, b.getLsbD 1, b.getLsbD 2, b.getLsbD 3, b.getLsbD 4, b.getLsbD 5,
    b.getLsbD 6, b.getLsbD 7, true]

/-- The levels of a frame, its bytes back to back (R70). -/
def frameLevels (bytes : List Byte) : List Bool := (bytes.map byteLevels).flatten

/-- The bit times that have passed since the attempt on the line began. -/
def bitsSent (s : State) : Nat := (s.now - s.line.sendingFrom) / bitTime

/-- The level of the bit that the station sends at this moment; `none` where it sends none (R70). -/
def sentLevel (s : State) : Option Bool :=
  match s.line.sending with
  | some bytes => (frameLevels bytes)[bitsSent s]?
  | none => none

/-- DEN is asserted: the station sends a low bit (R69). -/
def denAsserted (s : State) : Bool := decide (sentLevel s = some false)

/-- The level on TXD: low under an asserted DEN, and otherwise the line's rest, high (R69). -/
def txdHigh (s : State) : Bool := !denAsserted s

/-- The line is driven low by this station: DEN is asserted with TXD low (R69). -/
def drivesLow (s : State) : Bool := denAsserted s && !txdHigh s

end Sys2Proof.Machine
end

