-- ==== Sys2Proof/Machine/Frames.lean ====
section
/-! DEFINITION. Frames, payloads, answers and codes: the layouts of chapter 12, and the judgement of a
complete frame (R71 to R73). -/

namespace Sys2Proof.Machine

/-! ## Kinds (R75) and allowed lengths (R182) -/

/-- The kind number of a frame a station sends (R75). -/
def FrameKind.number (k : FrameKind) : Nat :=
  match k with
  | .statusReport => 1
  | .startIntent => 2
  | .stageCall => 3
  | .shedCall => 4
  | .stationAnswer => 10

/-- The class of a frame a station sends (R75). -/
def FrameKind.class (k : FrameKind) : Nat :=
  match k with
  | .statusReport => 3
  | .startIntent => 2
  | .stageCall => 1
  | .shedCall => 2
  | .stationAnswer => 3

/-- The target number of a frame a station sends (R75). -/
def FrameKind.target (k : FrameKind) : Nat :=
  match k with
  | .stationAnswer => 15
  | _ => 0

/-- Kind number of a TOOL QUERY (R75). -/
def toolQueryKind : Nat := 8

/-- Kind number of a TOOL ORDER (R75). -/
def toolOrderKind : Nat := 9

/-- The kinds a receiver knows (R73). -/
def kindKnown (k : Nat) : Bool :=
  decide (k = 1) || decide (k = 2) || decide (k = 3) || decide (k = 4) || decide (k = 8) ||
    decide (k = 9) || decide (k = 10)

/-- A TOOL QUERY or a TOOL ORDER. -/
def fromTool (k : Nat) : Bool := decide (k = toolQueryKind) || decide (k = toolOrderKind)

/-- The payload length is one the kind allows (R182). -/
def lengthAllowed (k n : Nat) : Bool :=
  match k with
  | 1 => decide (n = 12)
  | 2 => decide (n = 5)
  | 3 => decide (n = 1)
  | 4 => decide (n = 3)
  | 8 => decide (n = 2)
  | 9 => decide (2 ≤ n) && decide (n ≤ 34)
  | 10 => decide (4 ≤ n) && decide (n ≤ 40)
  | _ => false

/-- The longest payload (R71). -/
def maxPayload : Nat := 40

/-! ## A frame on the wire (R71, R183) -/

/-- The delimiter (R71). -/
def delimiter : Byte := 0xA6

/-- The bytes of a frame, the delimiter first (R71, R183). -/
def wireFrame (kind sender target : Nat) (sequence : Byte) (payload : List Byte) : List Byte :=
  let body := byte8 kind :: byte8 (sender * 16 + target) :: sequence ::
    byte8 payload.length :: payload
  delimiter :: body ++ word16 (crc16 body).toNat

/-- A received frame as it is handed on (R74). -/
structure Frame where
  kind : Nat
  sender : Nat
  target : Nat
  sequence : Byte
  payload : List Byte
  deriving DecidableEq, Repr

/-- What becomes of a complete frame (R73). -/
inductive Verdict where
  | good (f : Frame)
  | broken
  | unknownKind
  | discardedQuery
  deriving DecidableEq, Repr

/-- The tests of R73 that follow the check and the kind's high bits, in their order. -/
def judgeFrame (s : State) (f : Frame) : Verdict :=
  if !kindKnown f.kind then .unknownKind
  else if fromTool f.kind && decide (f.sender ≠ 15) then .discardedQuery
  else if !fromTool f.kind && (decide (f.sender = 0) || decide (f.sender = 15)) then .broken
  else if !lengthAllowed f.kind f.payload.length then .broken
  else if fromTool f.kind && (windowRuns s || decide (s.line.state = .listen) ||
      decide (s.line.state = .clash)) then .discardedQuery
  else .good f

/-- The bytes collected after the delimiter make a complete frame (R72). -/
def frameComplete (bytes : List Byte) : Bool :=
  decide (4 ≤ bytes.length) && decide (bytes.length = byteAt bytes 3 + 6)

/-- The judgement of the bytes collected after the delimiter, first the check, then the kind's high
four bits, then the rest (R73). -/
def judgeBytes (s : State) (bytes : List Byte) : Verdict :=
  let n := byteAt bytes 3
  if (crc16 (bytes.take (n + 4))).toNat ≠ wordAt bytes (n + 4) then .broken
  else if 16 ≤ byteAt bytes 0 then .broken
  else judgeFrame s
    { kind := byteAt bytes 0
      sender := byteAt bytes 1 / 16
      target := byteAt bytes 1 % 16
      sequence := bytes.getD 2 0
      payload := (bytes.drop 4).take n }

/-! ## Codes (R184) -/

/-- Pump state code. -/
def PumpState.code (st : PumpState) : Nat :=
  match st with
  | .notFitted => 0 | .disabled => 1 | .off => 2 | .waiting => 3 | .starting => 4
  | .retryWait => 5 | .running => 6 | .runOn => 7 | .resting => 8 | .lockedOut => 9

/-- Selector code. -/
def selectorCode (p : Option Position) : Nat :=
  match p with
  | none => 0 | some .off => 1 | some .auto => 2 | some .hand => 3

/-- Last outcome code. -/
def StartOutcome.code (o : StartOutcome) : Nat :=
  match o with
  | .clean => 0 | .recovered => 1 | .recoveredOver => 2 | .failed => 3

/-- Lockout cause code. -/
def lockoutCode (c : Option LockoutCause) : Nat :=
  match c with
  | none => 0 | some .start => 1 | some .trips => 2

/-- Gate state code. -/
def GateState.code (st : GateState) : Nat :=
  match st with
  | .notFitted => 0 | .unknown => 1 | .opened => 2 | .closing => 3 | .closed => 4
  | .opening => 5 | .suspended => 6 | .held => 7 | .fault => 8

/-- Gate direction code. -/
def directionCode (d : Option Direction) : Nat :=
  match d with
  | none => 0 | some .close => 1 | some .open_ => 2

/-- Gate fault cause code. -/
def gateFaultCode (c : Option GateFault) : Nat :=
  match c with
  | none => 0 | some .travel => 1 | some .limitConflict => 2 | some .drift => 3

/-- Gate kind code. -/
def gateKindCode (k : GateKind) : Nat :=
  match k with
  | .none => 0 | .barrier => 1 | .floodgate => 2

/-- Circuit kind code. -/
def circuitKindCode (k : CircuitKind) : Nat :=
  match k with
  | .unused => 0 | .emergency => 1 | .entrance => 2 | .interior => 3

/-- Line state code; ISLAND has one of its own. -/
def lineStateCode (l : Line) : Nat :=
  match l.state with
  | .listen => 0
  | .onLine => if l.island then 2 else 1
  | .lineFault => 3
  | .clash => 4

/-- Budget mode code. -/
def BudgetMode.code (m : BudgetMode) : Nat :=
  match m with
  | .none => 0 | .peer => 1 | .island => 2

/-- Own intent state code. -/
def OwnIntent.code (i : OwnIntent) : Nat :=
  match i with
  | .none => 0 | .queued _ _ => 1 | .window _ _ => 2

/-- Reset cause code. -/
def ResetCause.code (c : ResetCause) : Nat :=
  match c with
  | .powerOn => 0 | .brownOut => 1 | .resetPin => 2 | .restart => 3 | .clock => 4

/-- Image status code. -/
def ImageStatus.code (st : ImageStatus) : Nat :=
  match st with
  | .valid => 0 | .clamped => 1 | .invalid => 2 | .absent => 3

/-- Float and probe state code. -/
def waterCode (w : Option Water) : Nat :=
  match w with
  | none => 0 | some .dry => 1 | some .wet => 2

/-- Day/night code. -/
def dayNightCode (d : Option DayNight) : Nat :=
  match d with
  | none => 0 | some .day => 1 | some .night => 2

/-- The results of a query or an order (R168, R184). -/
inductive Result where
  | done
  | notFitted
  | wrongState
  | locked
  | range
  | busy
  | failed
  | unknown
  deriving DecidableEq, Repr

/-- Result code. -/
def Result.code (r : Result) : Nat :=
  match r with
  | .done => 0 | .notFitted => 1 | .wrongState => 2 | .locked => 3
  | .range => 4 | .busy => 5 | .failed => 6 | .unknown => 7

/-- An absent value of a one-byte field is 0xFF (R185). -/
def byteOr (v : Option Nat) : Byte :=
  match v with
  | some n => byte8 n
  | none => 0xFF

/-- An absent value of a two-byte field is 0xFFFF (R185). -/
def wordOr (v : Option Nat) : List Byte :=
  match v with
  | some n => word16 n
  | none => [0xFF, 0xFF]

/-! ## Payloads a station sends (R86, R183) -/

/-- The supply mode bit: 1 for GENERATOR, with UNKNOWN shown as GENERATOR (R110, R183). -/
def supplyBit (s : State) : Nat := flag (decide (s.inputs.supplyMode.stable ≠ some .mains))

/-- The payload of a STATUS REPORT, taken from the state of the blocks (R86, R183). -/
def reportPayload (s : State) : List Byte :=
  let unknownLoad := decide (s.mode = .configFallback)
  [byte8 s.stage.localStage, byte8 s.stage.site] ++
    word16 (if unknownLoad then 0 else s.supply.load) ++
    [byte8 (runningCount s), byte8 ((worstPump s).1 * 16 + (worstPump s).2),
      byte8 (s.gate 0).state.code, byte8 (s.gate 1).state.code, byte8 s.supply.shedOffset,
      byte8 (supplyBit s + 2 * flag unknownLoad + 4 * flag s.line.island +
        8 * flag unknownLoad)] ++
    word16 (faultFlags s)

/-- The payload of a START INTENT (R183). -/
def intentPayload (i : Intent) : List Byte :=
  byte8 i.pump.val :: word16 i.inrush ++ [byte8 i.urgency, byte8 i.attempt]

/-- The payload of a SHED CALL (R183). -/
def shedPayload (shortfall urgency : Nat) : List Byte := word16 shortfall ++ [byte8 urgency]

/-- The payload of a STAGE CALL (R183). -/
def stagePayload (stage : Nat) : List Byte := [byte8 stage]

/-- The payload of a STATION ANSWER: the sequence number of the tool frame, its record or order kind
with bit 7 set for an order, the index, the result, and the record of a query answered DONE
(R185). -/
def answerPayload (sequence : Byte) (order : Bool) (code index : Byte) (r : Result)
    (record : List Byte) : List Byte :=
  [sequence, if order then code ||| 0x80 else code, index, byte8 r.code] ++ record

/-! ## Records (R170, R185) -/

/-- The station summary, 27 bytes. H is sent as 0 in configuration fallback, where it is not
computed. -/
def summaryRecord (s : State) : List Byte :=
  reportPayload s ++
    [byte8 s.startup.cause.code, byte8 ((s.startup.imageStatus.map (·.code)).getD 0),
      byte8 (lineStateCode s.line)] ++
    signed32 (if decide (s.mode = .configFallback) then 0 else s.supply.headroom) ++
    [byte8 s.supply.mode.code, byte8 s.supply.intent.code] ++
    word16 s.supply.deferrals ++
    (match s.supply.lastShed with
      | some c => byte8 c.sender :: word16 c.shortfall ++ [byte8 c.urgency]
      | none => 0x00 :: wordOr none ++ [byteOr none])

/-- The pump record, 7 bytes (R66, R67). -/
def pumpRecord (s : State) (p : Fin 4) : List Byte :=
  let r := s.pump p
  [byte8 r.state.code, byte8 (selectorCode r.selector), byte8 r.trouble,
    byte8 r.outcome.code, byte8 (flag (attention s r)), byte8 (lockoutCode r.lockout),
    byte8 r.history.length]

/-- The gate record, 7 bytes (R145): the travel used in whole tenths of a second. That it is brought to
them by truncation is the model's DESIGN CHOICE (log entry 44). -/
def gateRecord (s : State) (c : Fin 2) : List Byte :=
  let g := s.gate c
  [byte8 (gateKindCode (gateKind s c)), byte8 g.state.code, byte8 (directionCode g.direction)] ++
    word16 (travelUsed s g / millis 100) ++
    [byte8 (gateFaultCode g.cause), byte8 (flag g.driftAt.isSome + 2 * flag g.reopen)]

/-- The lighting record, 28 bytes (R157). In configuration fallback it shows no kind and no target,
duty 200, offset 0 and the step UNSET (R158, R185), and the number of steps in use that start-up
fixed (log entry 12). -/
def lightingRecord (s : State) : List Byte :=
  if decide (s.mode = .configFallback) then
    (List.replicate 8 [(0xFF : Byte), 0xFF, byte8 fullDuty]).flatten ++
      [0x00, 0xFF, byte8 s.lights.steps, byte8 (dayNightCode s.inputs.dayNight.stable)]
  else
    ((Eight.toList (Eight.map₂ (fun (k : CircuitSettings) (d : Nat) =>
        [byte8 (circuitKindCode k.kind), byteOr (target s k), byte8 d])
        s.settings.circuit s.lights.duty)).flatten) ++
      [byte8 s.supply.shedOffset, byteOr s.lights.step, byte8 s.lights.steps,
        byte8 (dayNightCode s.inputs.dayNight.stable)]

/-- The peer entry held for a station number. -/
def peerEntry (s : State) (n : Nat) : Option Peer :=
  s.peers.table.find? fun e => decide (e.station = n)

/-- The reservation held for a sender. -/
def reservationOf (s : State) (n : Nat) : Option Reservation :=
  s.peers.reservations.find? fun r => decide (r.sender = n)

/-- The spacing S, in microseconds (R106). -/
def spacing (s : State) : Nat := secs s.settings.spacing

/-- The peer view record of a station number, 18 bytes (R107, R185): a field whose held bit is
clear is sent as 0. The age is truncated to whole seconds (R107); that the time left of a reservation
is truncated to whole milliseconds is the model's DESIGN CHOICE (log entry 44). That a station absent
from the table is shown with the reservation still held for it is DEDUCED from R170 (log entry
52). -/
def peerRecord (s : State) (n : Nat) : List Byte :=
  let e := peerEntry s n
  let r := reservationOf s n
  let stage := e.bind (·.stage)
  let claim := e.bind (·.claim)
  let rep := e.bind (·.report)
  [byte8 (flag e.isSome + 2 * flag ((e.map (·.stale)).getD false) + 4 * flag stage.isSome +
      8 * flag claim.isSome + 16 * flag ((e.map (·.fallback)).getD false) +
      32 * flag rep.isSome + 64 * flag r.isSome),
    byte8 ((e.map fun p => (s.now - p.lastFrame) / secs 1).getD 0), byte8 (stage.getD 0)] ++
    word16 (claim.getD 0) ++ word16 ((e.map (·.gaps)).getD 0) ++
    [byte8 ((rep.map (·.site)).getD 0), byte8 ((rep.map (·.running)).getD 0),
      byte8 (flag ((rep.map (·.generator)).getD false))] ++
    word16 ((rep.map fun c => c.faults.toNat).getD 0) ++
    [byte8 ((r.map (·.pump)).getD 0)] ++ word16 ((r.map (·.inrush)).getD 0) ++
    [byte8 ((r.map (·.urgency)).getD 0)] ++
    word16 ((r.map fun v => (v.arrival + spacing s - s.now) / millis 1).getD 0)

/-- The line counters record, 18 bytes (R90, R185). -/
def countersRecord (c : Counters) : List Byte :=
  word16 c.good ++ word16 c.broken ++ word16 c.unknownKinds ++ word16 c.collisions ++
    word16 c.sendFailures ++ word16 c.queueDrops ++ word16 c.sequenceGaps ++
    word16 c.discardedQueries ++ word16 c.ownNumber

/-- The measurement record, 19 bytes (R20, R185). -/
def measurementRecord (s : State) : List Byte :=
  wordOr (loopMean s.meas.loopA) ++ wordOr (loopMean s.meas.loopB) ++
    wordOr (loopLevel s s.meas.loopA) ++ wordOr (loopLevel s s.meas.loopB) ++
    [byte8 s.meas.loopA.fault.code, byte8 s.meas.loopB.fault.code,
      byte8 (waterCode (reportedOf s.inputs.lowFloat.stable s.inputs.lowChatter)),
      byte8 (waterCode s.inputs.lowFloat.stable),
      byte8 (waterCode (reportedOf s.inputs.highFloat.stable s.inputs.highChatter)),
      byte8 (waterCode s.inputs.highFloat.stable),
      byte8 (flag s.inputs.lowChatter.chatter + 2 * flag s.inputs.highChatter.chatter +
        4 * flag s.inputs.probeChatter.chatter + 8 * flag s.meas.disagree +
        16 * flag s.meas.rateValid + 32 * flag s.meas.inflowValid)] ++
    signed16 s.meas.rate ++ word16 s.meas.inflow

/-- The bytes in one configuration chunk (R170). -/
def chunkSize : Nat := 32

/-- The configuration chunk from an offset: 32 bytes of the active image (R170). -/
def chunkRecord (s : State) (offset : Nat) : List Byte :=
  (s.startup.activeImage.drop offset).take chunkSize

end Sys2Proof.Machine
end

