-- ==== Sys2Proof/Machine/Queue.lean ====
section
/-! DEFINITION. The line counters, the report schedule and the transmit queue (R82 to R85, R90), and
what the placing blocks are told (R84). -/

namespace Sys2Proof.Machine

/-! ## Counters (R90) -/

/-- The maximum of a line counter, a gap count or the deferral count: 16 bits. -/
def count16 : Nat := 65535

/-- The counters with one of them changed. -/
def withCounters (f : Counters → Counters) (s : State) : State :=
  { s with line := { s.line with counters := f s.line.counters } }

/-- One more frame received good. -/
def countGood : State → State :=
  withCounters fun c => { c with good := saturate count16 c.good 1 }

/-- One more broken frame. -/
def countBroken : State → State :=
  withCounters fun c => { c with broken := saturate count16 c.broken 1 }

/-- One more frame of unknown kind. -/
def countUnknownKind : State → State :=
  withCounters fun c => { c with unknownKinds := saturate count16 c.unknownKinds 1 }

/-- One more collided attempt. -/
def countCollision : State → State :=
  withCounters fun c => { c with collisions := saturate count16 c.collisions 1 }

/-- One more frame dropped after eight attempts. -/
def countSendFailure : State → State :=
  withCounters fun c => { c with sendFailures := saturate count16 c.sendFailures 1 }

/-- `n` more queue drops. -/
def countQueueDrops (n : Nat) : State → State :=
  withCounters fun c => { c with queueDrops := saturate count16 c.queueDrops n }

/-- `n` more missed frames. -/
def countGaps (n : Nat) : State → State :=
  withCounters fun c => { c with sequenceGaps := saturate count16 c.sequenceGaps n }

/-- One more discarded tool frame. -/
def countDiscarded : State → State :=
  withCounters fun c => { c with discardedQueries := saturate count16 c.discardedQueries 1 }

/-- One more good frame bearing the own number. -/
def countOwnNumber : State → State :=
  withCounters fun c => { c with ownNumber := saturate count16 c.ownNumber 1 }

/-! ## The report schedule (R85) -/

/-- An entry whose first attempt has begun: it is in progress (R82, R83). -/
def Entry.begun (e : Entry) : Bool := e.sequence.isSome

/-- A report falls due: the change-pending flag is set, unless a marker already waits; nothing
happens where the line controller does not run (R85, R91). -/
def reportDue (s : State) : State :=
  if !lineRuns s then s
  else
    match s.line.report with
    | some e =>
      if e.begun then { s with line := { s.line with changePending := true } } else s
    | none => { s with line := { s.line with changePending := true } }

/-! ## Placing (R82, R83) -/

/-- The places for frames other than the report (R82). -/
def queuePlaces : Nat := 5

/-- The most answers the queue holds (R82). -/
def answerPlaces : Nat := 4

/-- The queue refuses every frame: LISTEN and CLASH, and while the LISTEN window runs (R83, R87). -/
def queueRefuses (s : State) : Bool :=
  windowRuns s || decide (s.line.state = .listen) || decide (s.line.state = .clash)

/-- An entry as it is placed (R82). -/
def newEntry (kind : FrameKind) (payload : List Byte) (tag : AnswerTag) (s : State) : Entry where
  kind := kind
  placedAt := s.now
  order := s.line.placed
  attempts := 0
  sequence := none
  payload := payload
  onLine := false
  withdraw := false
  tag := tag

/-- The entry joins the five places. -/
def enqueue (kind : FrameKind) (payload : List Byte) (tag : AnswerTag) (s : State) : State :=
  { s with line := { s.line with
      queue := s.line.queue ++ [newEntry kind payload tag s]
      placed := s.line.placed + 1 } }

/-- How many answers the queue holds. -/
def answersHeld (s : State) : Nat :=
  countIf (fun e => decide (e.kind = .stationAnswer)) s.line.queue

/-- The answer placed earliest that is not in progress (R83). -/
def displaceable (s : State) : Option Entry :=
  leastBy (·.order) (s.line.queue.filter fun e => decide (e.kind = .stationAnswer) && !e.begun)

/-- An entry leaves the five places. -/
def dequeue (order : Nat) (s : State) : State :=
  { s with line := { s.line with queue := s.line.queue.filter fun e => decide (e.order ≠ order) } }

/-- The tool responder is told SENT or NOT SENT for an answer: the wait it ends, if any, ends
(R174). -/
def answerEnded (tag : AnswerTag) (s : State) : State :=
  match tag, s.tool.restart with
  | .restart, some w => { s with tool := { s.tool with restart := some { w with answer := false } } }
  | .write, some w => { s with tool := { s.tool with restart := some { w with write := false } } }
  | _, _ => s

/-- The supply block is told NOT SENT for its intent: the state returns to NONE, and forming waits
for the next level update (R113, R114). -/
def intentNotSent (s : State) : State :=
  { s with supply := { s.supply with intent := .none, formWaits := true } }

/-- The placing block is told NOT SENT (R84). -/
def notSent (kind : FrameKind) (tag : AnswerTag) (s : State) : State :=
  match kind with
  | .startIntent => intentNotSent s
  | .stationAnswer => answerEnded tag s
  | _ => s

/-- A frame other than the report is handed to the line controller: it is placed, placed with an
answer displaced, or refused (R83). -/
def placeFrame (kind : FrameKind) (payload : List Byte) (tag : AnswerTag) (s : State) : State :=
  if queueRefuses s then notSent kind tag s
  else if kind = .stationAnswer then
    if answersHeld s < answerPlaces ∧ s.line.queue.length < queuePlaces then
      enqueue kind payload tag s
    else notSent kind tag (countQueueDrops 1 s)
  else if s.line.queue.length < queuePlaces then enqueue kind payload tag s
  else
    match displaceable s with
    | some a =>
      enqueue kind payload tag (countQueueDrops 1 (answerEnded a.tag (dequeue a.order s)))
    | none => notSent kind tag (countQueueDrops 1 s)

/-- The pending report becomes a marker in the empty report place (R83, R85). -/
def placeMarker (s : State) : State :=
  { s with line := { s.line with
      report := some (newEntry .statusReport [] .plain s)
      placed := s.line.placed + 1
      changePending := false } }

/-- The least time between report starts (R85). -/
def reportSpacing : Nat := millis 200

/-- The time after which a periodic report falls due (R85). -/
def reportPeriod : Nat := secs 2

/-- The pending report may become a marker (R85, R87). -/
def markerAllowed (s : State) : Bool :=
  s.line.changePending && s.line.report.isNone && passedSince s.line.lastReportStart reportSpacing s &&
    (decide (s.line.state = .onLine) || decide (s.line.state = .lineFault)) && !windowRuns s

/-! ## The head of the queue (R82) -/

/-- Every entry, the report place's among them. -/
def entries (s : State) : List Entry := s.line.report.toList ++ s.line.queue

/-- The rank of an entry that is not in progress: its class, then its place in the order of placing
(R82). -/
def Entry.before (a b : Entry) : Bool :=
  decide (a.kind.class < b.kind.class) ||
    (decide (a.kind.class = b.kind.class) && decide (a.order < b.order))

/-- The most urgent entry, the one placed earliest among equals (R82). -/
def firstOf : List Entry → Option Entry
  | [] => none
  | e :: es =>
    match firstOf es with
    | none => some e
    | some f => if f.before e then some f else some e

/-- The head of the queue: the entry in progress if there is one, otherwise the most urgent
(R82). -/
def headEntry (s : State) : Option Entry :=
  match (entries s).find? Entry.begun with
  | some e => some e
  | none => firstOf (entries s)

/-- The entry given is changed where it stands. -/
def changeEntry (order : Nat) (f : Entry → Entry) (s : State) : State :=
  { s with line := { s.line with
      report := s.line.report.map fun e => if e.order = order then f e else e
      queue := s.line.queue.map fun e => if e.order = order then f e else e } }

/-- A report frame has ended, SENT or NOT SENT: its place empties, and the next periodic report falls
due 2.0 s after its start time (R85). -/
def reportEnded (s : State) : State :=
  { s with line := { s.line with
      report := none
      periodicAt := s.line.lastReportStart.map (· + reportPeriod) } }

/-- The entry leaves the queue. -/
def dropEntry (e : Entry) (s : State) : State :=
  if e.kind = .statusReport then reportEnded s else dequeue e.order s

/-- No attempt is on the line any more: DEN is released (R69, R77, R80). -/
def releaseLine (s : State) : State := { s with line := { s.line with sending := none } }

/-- The entry of an own START INTENT or SHED CALL in the queue. -/
def ownEntry (kind : FrameKind) (s : State) : Option Entry :=
  s.line.queue.find? fun e => decide (e.kind = kind)

/-- The supply block withdraws its START INTENT: at once where no attempt is on the line, and the
state returns to NONE; otherwise the withdrawal is held (R84, R114). -/
def withdrawIntent (s : State) : State :=
  match ownEntry .startIntent s with
  | none => { s with supply := { s.supply with intent := .none } }
  | some e =>
    if e.onLine then changeEntry e.order (fun x => { x with withdraw := true }) s
    else
      let t := dequeue e.order s
      { t with supply := { t.supply with intent := .none } }

/-- The supply block withdraws the SHED CALLs that still wait for their first attempt (R84,
R121). -/
def withdrawShedCalls (s : State) : State :=
  { s with line := { s.line with
      queue := s.line.queue.filter fun e => decide (e.kind ≠ .shedCall) || e.begun } }

end Sys2Proof.Machine
end

