-- ==== Sys2Proof/Machine/Hand.lean ====
section
/-! DEFINITION. What a change of load, of headroom or of the start candidate sets off inside one event:
the committed load (R109), the headroom and its hand-over (R111), the intent and the start grants
(R49, R113, R119), shedding (R120 to R124), the lighting load (R154, R155), and the drives and
openings of the gates (R129 to R138).

A change of the load hands on the headroom, which may start a pump, shed lighting or open a gate,
and so change the load again. The operations that change the load therefore take what a change
hands on, `k`, as an argument, and `handH` ties the knot. Its depth is bounded: a start leaves no
candidate, a short event starts its timer, and each channel opens once (log entry 14). -/

namespace Sys2Proof.Machine

/-! ## Committed load and lighting (R109, R154, R155) -/

/-- The most a 16-bit load holds (R109). -/
def maxLoad : Nat := 65535

/-- The committed load from the three parts as they stand (R109). -/
def committedLoad (s : State) : Nat := min maxLoad (pumpsLoad s + gatesLoad s + s.lights.load)

/-- A part of the load is handed on: L_own is recomputed, and a change of it is handed on in turn
(R109, R111). -/
def handLoad (k : State → State) (s : State) : State :=
  if committedLoad s = s.supply.load then s
  else k { s with supply := { s.supply with load := committedLoad s } }

/-- Every circuit's applied duty as the state gives it (R153). -/
def dutiesOf (s : State) : Eight Nat := s.settings.circuit.map (appliedDuty s)

/-- The lighting is recomputed; where any applied duty changes, the outputs are set and the new load
is handed on (R154, R155). -/
def relight (k : State → State) (s : State) : State :=
  if dutiesOf s = s.lights.duty then s
  else
    handLoad k { s with lights := { s.lights with
      duty := dutiesOf s
      load := lightingLoad s.settings (dutiesOf s) } }

/-! ## Pump records change (R36, R37, R48, R65, R114) -/

/-- The record of pump `p` is replaced. -/
def putPump (p : Fin 4) (r : Pump) (s : State) : State :=
  { s with pumps := { s.pumps with pump := s.pumps.pump.set p r } }

/-- The code of the speed reference for a trim speed (R37). -/
def speedCode (trim : Nat) : Nat := trim * 255 / 100

/-- The speed reference output follows the trim speed while a pump is in service, and is 0 otherwise
and without variable trim (R37). -/
def refreshSpeed (s : State) : State :=
  { s with stage := { s.stage with speedReference :=
      if s.settings.variableTrim && decide (0 < runningOrStarting s) then speedCode s.stage.trim
      else 0 } }

/-- At the event at which the last pump in RUNNING or RUN-ON leaves those states, s becomes 100
(R36). -/
def trimAfter (old s : State) : State :=
  if runningCount s = 0 ∧ runningCount old ≠ 0 then
    { s with stage := { s.stage with trim := 100 } }
  else s

/-- A queued intent is withdrawn when its named pump has left WAITING (R114). -/
def checkQueuedPump (s : State) : State :=
  match s.supply.intent with
  | .queued i _ => if (s.pump i.pump).state = .waiting then s else withdrawIntent s
  | _ => s

/-- The candidate as it is offered: its index and its attempt number (R48). -/
def offer (s : State) : Option (Fin 4 × Option Nat) :=
  (candidate s).map fun p => (p, (s.pump p).attempt)

/-- Pump records have changed since `old`: the running pump count makes a report due, the trim speed
and the speed reference follow, a queued intent may be withdrawn, and a new load or a new candidate
is handed on (R36, R37, R65, R113, R114). That the return to NONE by such a withdrawal is no event at
which R113 tries its conditions, where neither the load nor the candidate has changed, is the
model's DESIGN CHOICE (log entry 56). -/
def pumpsChanged (k : State → State) (old s : State) : State :=
  let s := if runningCount old = runningCount s then s else reportDue s
  let s := checkQueuedPump (refreshSpeed (trimAfter old s))
  if committedLoad s = s.supply.load then
    if offer old = offer s then s else k s
  else handLoad k s

/-! ## Start grants (R49, R117, R119) -/

/-- Pump control takes a grant for `p`: the pump is in WAITING, the low float reports WET, no pump is
in STARTING, and the history has room (R49). -/
def grantTaken (s : State) (p : Fin 4) : Bool :=
  operating s && decide ((s.pump p).state = .waiting) && lowWet s && !anyStarting s &&
    historyRoom s (s.pump p)

/-- The pump enters STARTING: its contactor is energised, the time joins its history and the attempt
timer starts (R49); the time of the last own start takes that moment (R117, R119). -/
def enterStarting (p : Fin 4) (s : State) : State :=
  let r := s.pump p
  let t := putPump p { r with
    state := .starting
    waitingSince := none
    history := r.history ++ [s.now]
    attemptFrom := some s.now
    settling := false } s
  { t with supply := { t.supply with lastStart := some s.now } }

/-- A start grant for `p` is taken or refused (R49). -/
def grantStart (k : State → State) (p : Fin 4) (s : State) : State :=
  if grantTaken s p then pumpsChanged k s (enterStarting p s) else s

/-! ## The intent (R113) -/

/-- A START INTENT may be formed now for the candidate (R113). -/
def intentReady (s : State) : Bool :=
  operating s && decide (s.supply.intent = .none) && !s.supply.formWaits &&
    decide (s.supply.mode = .peer) && decide (s.peers.reservations = []) &&
    passedSince s.supply.lastIntent (spacing s) s && coversStart s

/-- The intent as it is formed for pump `p` (R113). -/
def intentFor (s : State) (p : Fin 4) : Intent :=
  ⟨p, s.settings.pIn, s.stage.localStage, ((s.pump p).attempt).getD 1⟩

/-- A START INTENT is formed and handed to the line controller when the conditions hold; a refusal
returns the state to NONE (R113). -/
def tryIntent (s : State) : State :=
  match candidate s with
  | none => s
  | some p =>
    if intentReady s then
      placeFrame .startIntent (intentPayload (intentFor s p)) .plain
        { s with supply := { s.supply with intent := .queued (intentFor s p) [] } }
    else s

/-- In island mode a start may be granted now (R119). -/
def islandReady (s : State) : Bool :=
  operating s && (candidate s).isSome && decide (s.supply.mode = .island) &&
    s.supply.entryWait.isNone && passedSince s.supply.lastStart (spacing s) s && coversStart s

/-- The island start grant, when the conditions hold (R119). -/
def tryIsland (k : State → State) (s : State) : State :=
  match candidate s with
  | none => s
  | some p => if islandReady s then grantStart k p s else s

/-! ## Shedding (R120 to R124) -/

/-- The shed offset's ceiling and step (6.1). -/
def maxOffset : Nat := 180
/-- The shed step (6.1). -/
def shedStep : Nat := 20
/-- The own-shortfall interval (R120). -/
def shortfallInterval : Nat := secs 2
/-- The shed-call interval (R121). -/
def shedCallInterval : Nat := secs 4
/-- The restore interval (R123). -/
def restoreInterval : Nat := secs 60

/-- H stands at or above the restore margin (R123). -/
def marginMet (s : State) : Bool := decide ((s.settings.restoreMargin : Int) ≤ s.supply.headroom)

/-- The restore timer starts when the offset is above 0, H is at or above the margin and the timer is
absent (R123). -/
def startRestore (s : State) : State :=
  if s.supply.restoreUntil.isNone && decide (0 < s.supply.shedOffset) && marginMet s then
    { s with supply := { s.supply with restoreUntil := some (s.now + restoreInterval) } }
  else s

/-- The restore timer restarts at 60 s, if running or if the start condition holds (R123). -/
def restartRestore (s : State) : State :=
  if s.supply.restoreUntil.isSome || (decide (0 < s.supply.shedOffset) && marginMet s) then
    { s with supply := { s.supply with restoreUntil := some (s.now + restoreInterval) } }
  else s

/-- The restore timer at a recomputation of H: absent below the margin (R123). -/
def checkRestore (s : State) : State :=
  if marginMet s then startRestore s
  else { s with supply := { s.supply with restoreUntil := none } }

/-- The shed offset takes a value: a change is handed to lighting and makes a report due, and an
offset of 0 stops the restore timer (R123, R124). -/
def setOffset (k : State → State) (v : Nat) (s : State) : State :=
  if v = s.supply.shedOffset then s
  else
    startRestore (reportDue (relight k { s with supply := { s.supply with
      shedOffset := v
      restoreUntil := if v = 0 then none else s.supply.restoreUntil } }))

/-- The shed offset rises by 20, or to 180 if that is nearer (R120 to R122). -/
def raiseOffset (k : State → State) (s : State) : State :=
  setOffset k (min maxOffset (s.supply.shedOffset + shedStep)) s

/-- The own-shortfall timer at a recomputation of H; it is absent in none mode (R120). -/
def checkShortfall (s : State) : State :=
  if s.supply.mode = .none ∨ 0 ≤ s.supply.headroom then
    { s with supply := { s.supply with shortfallUntil := none } }
  else if s.supply.shortfallUntil.isNone then
    { s with supply := { s.supply with shortfallUntil := some (s.now + shortfallInterval) } }
  else s

/-- The shortfall a SHED CALL carries: P_in − H, taken as 65,535 if larger (R121). -/
def shortfallOf (s : State) : Nat := min 65535 ((s.settings.pIn : Int) - s.supply.headroom).toNat

/-- The waiting SHED CALL is withdrawn once the station is no longer short (R121). -/
def checkShedCalls (s : State) : State := if short s then s else withdrawShedCalls s

/-- A short event: the shortfall is computed, the offset rises, a SHED CALL is placed if the line
state is ON-LINE, the restore timer restarts and the shed-call timer starts (R121). -/
def shortEvent (k : State → State) (s : State) : State :=
  let call := shedPayload (shortfallOf s) s.stage.localStage
  let s := raiseOffset k { s with supply := { s.supply with
    shedCallUntil := some (s.now + shedCallInterval) } }
  let s := if s.line.state = .onLine then placeFrame .shedCall call .plain s else s
  checkShedCalls (restartRestore s)

/-- The shed-call logic at a recomputation of H or a change of candidate (R121). -/
def checkShort (k : State → State) (s : State) : State :=
  if short s && s.supply.shedCallUntil.isNone then shortEvent k s else checkShedCalls s

/-! ## Gate records and drives (R128, R129) -/

/-- The dead time between the two drives of a channel (R129). -/
def deadTime : Nat := millis 500

/-- A reopen request is cancelled when the channel leaves CLOSED or UNKNOWN by any path (R137). -/
def settleReopen (g : Gate) : Gate :=
  match g.state with
  | .closed | .unknown => g
  | _ => { g with reopen := false }

/-- The record of channel `c` is replaced. -/
def putGate (c : Fin 2) (g : Gate) (s : State) : State :=
  { s with gates := { s.gates with channel := s.gates.channel.set c (settleReopen g) } }

/-- The drive that is on drops: its travel is added up and the moment is kept (R129). -/
def dropDrive (now : Nat) (g : Gate) : Gate :=
  match g.drive with
  | none => g
  | some .close =>
    { g with used := g.used + (now - g.driveFrom), drive := none, closeDropped := some now }
  | some .open_ =>
    { g with used := g.used + (now - g.driveFrom), drive := none, openDropped := some now }

/-- When the drive opposite to `d` last dropped (R129). -/
def oppositeDropped (d : Direction) (g : Gate) : Option Nat :=
  match d with
  | .close => g.openDropped
  | .open_ => g.closeDropped

/-- The drive `d` comes on, unless the other drive dropped less than 500 ms ago (R129). -/
def startDrive (d : Direction) (s : State) (g : Gate) : Gate :=
  if passedSince (oppositeDropped d g) deadTime s then
    { g with drive := some d, driveFrom := s.now }
  else g

/-- A travel in direction `d` goes on or starts: CLOSING or OPENING, with its drive (R129). -/
def travel (d : Direction) (s : State) (g : Gate) : Gate :=
  startDrive d s { g with
    state := match d with | .close => .closing | .open_ => .opening
    direction := some d }

/-- A closing travel begins with travel used 0: HELD with the hold key ACTIVE, SUSPENDED with the lane
obstructed or the interlock lost, CLOSING otherwise (R130, R131, R139, R142). -/
def beginClose (c : Fin 2) (s : State) : State :=
  let g := { dropDrive s.now (s.gate c) with used := 0, direction := some .close }
  putGate c
    (if holdActive s then { g with state := .held }
    else if obstructed s c || !closingAllowed s c then { g with state := .suspended }
    else travel .close s g) s

/-- A travel toward the open limit begins with travel used 0 (R138, R142). -/
def beginOpen (c : Fin 2) (s : State) : State :=
  putGate c (travel .open_ s { dropDrive s.now (s.gate c) with used := 0, reopen := false }) s

/-- A channel enters FAULT: its drive drops, its direction is kept, a reopen request is cancelled
(R140 to R142). -/
def enterFault (cause : GateFault) (c : Fin 2) (s : State) : State :=
  putGate c { dropDrive s.now (s.gate c) with state := .fault, cause := some cause } s

/-- A travel ends at a limit, or UNKNOWN takes a position: OPEN or CLOSED, with no direction (R132,
R144). R128 speaks of the travel used of the current travel; that it stands after the travel has
ended, until the next begins, is the model's DESIGN CHOICE (log entry 47). -/
def arrive (st : GateState) (c : Fin 2) (s : State) : State :=
  putGate c { dropDrive s.now (s.gate c) with state := st, direction := none } s

/-- A channel in CLOSING is halted: its drive drops and the travel used stands (R131, R133). -/
def suspend (c : Fin 2) (s : State) : State :=
  putGate c { dropDrive s.now (s.gate c) with state := .suspended } s

/-- A closing resumes with its travel used unchanged (R133, R135). -/
def resumeClose (c : Fin 2) (s : State) : State := putGate c (travel .close s (s.gate c)) s

/-- The clear-lane times of R131 and R133. -/
def laneClearToBegin : Nat := secs 5
/-- The clear-lane time to resume (R133). -/
def laneClearToResume : Nat := secs 3

/-- The lane of channel `c` has been stably CLEAR continuously for `d`, up to the stable state of the
last scan end (R131, R133). -/
def laneClearFor (d : Nat) (s : State) (c : Fin 2) : Bool :=
  laneClear s c && lastedFor (s.gate c).clearSince d s

/-- A flood gate may begin a closing (R131). -/
def floodgateCloses (s : State) (c : Fin 2) : Bool :=
  decide (s.stage.site = 4) && interlock s c && laneClearFor laneClearToBegin s c && !holdActive s

/-- A SUSPENDED channel may resume (R133). -/
def mayResume (s : State) (c : Fin 2) : Bool :=
  laneClearFor laneClearToResume s c && !holdActive s && closingAllowed s c

/-- The closing rules tried on one channel: a flood gate in CLOSING without its interlock suspends
(R131); a barrier in OPEN or UNKNOWN at site stage 3 or 4 begins to close (R130), a flood gate when
R131 allows; a SUSPENDED channel resumes when R133 allows. -/
def tryClosing (s : State) (c : Fin 2) : State :=
  match (s.gate c).state with
  | .closing => if closingAllowed s c then s else suspend c s
  | .opened | .unknown =>
    match gateKind s c with
    | .barrier => if 3 ≤ s.stage.site then beginClose c s else s
    | .floodgate => if floodgateCloses s c then beginClose c s else s
    | .none => s
  | .suspended => if mayResume s c then resumeClose c s else s
  | _ => s

/-- The channels with the flood gates last, since a flood gate's interlock reads its barrier. -/
def channelsBarrierFirst (s : State) : List (Fin 2) :=
  (channels.filter fun c => decide (gateKind s c ≠ .floodgate)) ++
    (channels.filter fun c => decide (gateKind s c = .floodgate))

/-- The closing rules tried on every channel. -/
def tryClosings (s : State) : State := (channelsBarrierFirst s).foldl tryClosing s

/-! ## Openings (R136 to R138) -/

/-- How old the low-stage time must be (R136). -/
def lowStageAge : Nat := secs 60

/-- The channel is ready to open (R136, R137). -/
def readyToOpen (s : State) (c : Fin 2) : Bool :=
  let g := s.gate c
  operating s && (decide (g.state = .closed) || decide (g.state = .unknown)) && !holdActive s &&
    passedSince g.closeDropped deadTime s &&
    match gateKind s c with
    | .barrier =>
      lastedFor s.gates.lowStageAt lowStageAge s &&
        (!pairedFloodgate s (otherChannel c) ||
          decide ((s.gate (otherChannel c)).state = .opened))
    | .floodgate => g.reopen && decide (s.stage.site ≤ 1)
    | .none => false

/-- The supply block gives consent: budget mode peer or island and H at least the channel's motor load
(R112). -/
def consentGiven (s : State) (c : Fin 2) : Bool :=
  decide (s.supply.mode ≠ .none) &&
    decide (((s.settings.gate.get c).motorLoad : Int) ≤ s.supply.headroom)

/-- The channel asks and would be given consent now. -/
def wouldOpen (s : State) (c : Fin 2) : Bool := readyToOpen s c && consentGiven s c

/-- The channel asks for consent; given it, it enters OPENING with its OPEN drive on and its load is
handed on (R138). -/
def tryOpening (k : State → State) (s : State) (c : Fin 2) : State :=
  if wouldOpen s c then handLoad k (reportDue (tryClosings (beginOpen c s))) else s

/-- Both channels ask and H does not cover both: the order decides, and the spec leaves it open
(R112, R138). -/
def openingRace (s : State) : Bool :=
  wouldOpen s 0 && wouldOpen s 1 &&
    decide (s.supply.headroom <
      ((s.settings.gate.get 0).motorLoad + (s.settings.gate.get 1).motorLoad : Nat))

/-- One more free value has been used. -/
def useFree (s : State) : State := { s with free := s.free + 1 }

/-- Every ready channel asks for consent; where the order decides, it is a free value (R138, log entry
13). -/
def tryOpenings (k : State → State) (s : State) : State :=
  if openingRace s then
    if Config.freeOrder s.free then tryOpening k (tryOpening k (useFree s) 1) 0
    else tryOpening k (tryOpening k (useFree s) 0) 1
  else tryOpening k (tryOpening k s 0) 1

/-- Any channel's state differs from the one it had in `old` (R85). -/
def gateStatesDiffer (old s : State) : Bool :=
  channels.any fun c => decide ((old.gate c).state ≠ (s.gate c).state)

/-- Gate records or what they read have changed since `old`: the closing rules are tried, a change of
state makes a report due, the gates' load is handed on, and ready channels ask for consent. -/
def gatesChanged (k : State → State) (old s : State) : State :=
  let s := tryClosings s
  let s := if gateStatesDiffer old s then reportDue s else s
  tryOpenings k (handLoad k s)

/-! ## The headroom (R111) -/

/-- H is recomputed in the budget mode in force (R111). -/
def computeH (s : State) : State := { s with supply := { s.supply with headroom := headroomOf s } }

/-- The motor loads of the channels that ask and would be given consent now. -/
def openersLoad (s : State) : Nat :=
  sumOf (channels.map fun c => if wouldOpen s c then (s.settings.gate.get c).motorLoad else 0)

/-- A start without the line and one or two openings reach H together and H does not cover them all:
the order decides, and the spec leaves it open (R112). -/
def startRace (s : State) : Bool :=
  islandReady s && channels.any (wouldOpen s) &&
    decide (s.supply.headroom < (s.settings.pIn + openersLoad s : Nat))

/-- The shed timers at a recomputation of H (R120, R121, R123). -/
def checkShedding (k : State → State) (s : State) : State :=
  checkRestore (checkShort k (checkShortfall s))

/-- H is recomputed and handed to the intent logic, to the start path without the line, to the shed
timers and to gate control (R111), to the depth `n`. Where a start and openings compete for H,
which is first is a free value (R112, log entry 13); what is first changes H, and the hand-over of
that change chooses again among those that are left. R111 hands H to the four "at that moment" and
gives no order among them: that they take it in the order in which R111 names them, but for a race
that the openings win, is the model's DESIGN CHOICE (log entry 45). -/
def handH : Nat → State → State
  | 0, s => computeH s
  | n + 1, s =>
    let s := tryIntent (computeH s)
    if startRace s && Config.freeOrder s.free then
      checkShedding (handH n) (tryIsland (handH n) (tryOpenings (handH n) (useFree s)))
    else
      tryOpenings (handH n) (checkShedding (handH n) (tryIsland (handH n)
        (if startRace s then useFree s else s)))

/-- The depth to which hand-overs nest: more than a start, a short event and two openings need (log
entry 14). -/
def handDepth : Nat := 8

/-- H is recomputed and handed on; the supply block runs only in normal operation (R111, R126). -/
def handOver (s : State) : State := if operating s then handH handDepth s else s

/-- The wait on entering island mode: n seconds (R119). -/
def entryWaitTime (s : State) : Nat := secs s.startup.number

/-- An open intent window is abandoned and a queued intent withdrawn: the budget mode has left peer
(R114, R118). -/
def leavePeer (s : State) : State :=
  match s.supply.intent with
  | .none => s
  | .queued _ _ => withdrawIntent s
  | .window _ _ => { s with supply := { s.supply with intent := .none } }

/-- The line state or the window has changed: the budget mode follows, and a change of it stops and
starts what hangs on it and is handed on (R111, R114, R118, R119). -/
def refreshMode (s : State) : State :=
  let m := budgetModeOf s
  if !operating s || decide (m = s.supply.mode) then s
  else
    let s := if s.supply.mode = .peer then leavePeer s else s
    handOver { s with supply := { s.supply with
      mode := m
      entryWait := if m = .island then some (s.now + entryWaitTime s) else none } }

end Sys2Proof.Machine
end

