-- ==== Sys2Proof/Machine/StageOps.lean ====
section
/-! DEFINITION. The local stage (R22 to R27), the computed maximum and the site stage (R28 to R31), and
what a change of the site stage hands to gates, lighting and signs. -/

namespace Sys2Proof.Machine

/-! ## Signs (R159 to R166) -/

/-- The scene the program of `stage` names at entry `i`; entries past the end are never read. -/
def sceneAt (c : Settings) (stage i : Nat) : Option Scene :=
  (c.program.getD stage [])[i]?.bind fun n => c.scene[n]?

/-- The length of the program of `stage`. -/
def programLength (c : Settings) (stage : Nat) : Nat := (c.program.getD stage []).length

/-- A sign output's drive for a mode and a half of the flash clock (R159). -/
def signDrive (firstHalf : Bool) (m : SignMode) : Bool :=
  match m with
  | .off => false
  | .on => true
  | .flash => firstHalf
  | .flashInverted => !firstHalf

/-- The sign outputs are set afresh from the shown scene and the flash half (R165). -/
def refreshSigns (s : State) : State :=
  match sceneAt s.settings s.signs.stage s.signs.entry with
  | some sc =>
    { s with signs := { s.signs with output := sc.modes.map (signDrive s.signs.firstHalf) } }
  | none => s

/-- Half a second: the unit of dwells and the half of the flash period (R159, R164). -/
def halfSecond : Nat := millis 500

/-- The dwell of the shown scene, in microseconds (R161). -/
def shownDwell (s : State) : Nat :=
  ((sceneAt s.settings s.signs.stage s.signs.entry).map (·.dwell)).getD 0 * halfSecond

/-- The sequencer goes to entry `i` of the program of `stage`, its dwell loaded in full, and the
outputs take that scene (R161 to R163). -/
def showEntry (stage i : Nat) (s : State) : State :=
  let t := { s with signs := { s.signs with stage := stage, entry := i } }
  refreshSigns { t with signs := { t.signs with dwellUntil := some (t.now + shownDwell t) } }

/-! ## The site stage (R28 to R31) -/

/-- The low-stage time at a change of the site stage from `old` (R136). -/
def lowStageAfter (old : Nat) (s : State) : State :=
  if 2 ≤ s.stage.site then { s with gates := { s.gates with lowStageAt := none } }
  else if 2 ≤ old then { s with gates := { s.gates with lowStageAt := some s.now } }
  else s

/-- The pending reopen request of channel `c` is cancelled (R137). -/
def cancelReopen (s : State) (c : Fin 2) : State := putGate c { s.gate c with reopen := false } s

/-- A rise of the site stage to 3 or 4 at channel `c`: an OPENING channel reverses, and a HELD channel
whose direction is OPEN takes direction CLOSE with travel used 0 (R134, R139). -/
def turnChannel (s : State) (c : Fin 2) : State :=
  match (s.gate c).state, (s.gate c).direction with
  | .opening, _ => beginClose c s
  | .held, some .open_ => putGate c { s.gate c with direction := some .close, used := 0 } s
  | _, _ => s

/-- Gate control takes a change of the site stage from `old` (R130, R131, R134, R136, R137, R139). -/
def gatesOnStage (old : Nat) (s : State) : State :=
  let t := lowStageAfter old s
  let t := if 2 ≤ t.stage.site then channels.foldl cancelReopen t else t
  let t := if 3 ≤ t.stage.site ∧ old < t.stage.site then channels.foldl turnChannel t else t
  gatesChanged handOver s t

/-- The site stage takes a new value, which is handed to gate control, lighting, the sign sequencer and
the report schedule (R31). Outside normal operation those three blocks do not run. -/
def setSite (v : Nat) (s : State) : State :=
  if v = s.stage.site then s
  else
    let t := { s with stage := { s.stage with site := v } }
    let t :=
      if operating t then showEntry v 0 (relight handOver (gatesOnStage s.stage.site t)) else t
    reportDue t

/-- The greatest last stage of the peer entries present, 0 where none holds one (R28). -/
def peersMaximum (s : State) : Nat :=
  s.peers.table.foldl (fun m e => max m (e.stage.getD 0)) 0

/-- The descent hold D, in microseconds (R29). -/
def descentTime (s : State) : Nat := secs s.settings.descentHold

/-- M is recomputed: the site stage rises to it at once; the descent hold starts or goes on while M
is below the site stage, and is cancelled otherwise (R28, R29). In clock fallback no hold starts,
since no timer runs there (R179). -/
def recomputeM (s : State) : State :=
  let m := max s.stage.localStage (peersMaximum s)
  let s := { s with stage := { s.stage with maximum := m } }
  if s.stage.site ≤ m then
    setSite m { s with stage := { s.stage with hold := none } }
  else if s.stage.hold.isNone && decide (s.mode ≠ .clockFallback) then
    { s with stage := { s.stage with hold := some (s.now + descentTime s) } }
  else s

/-- The descent hold runs out: the site stage falls by one, and the hold restarts with D while M is
below the new site stage (R29). -/
def descend (s : State) : State :=
  let v := s.stage.site - 1
  let hold := if s.stage.maximum < v then some (s.now + descentTime s) else none
  setSite v { s with stage := { s.stage with hold := hold } }

/-! ## The local stage (R22 to R27) -/

/-- The threshold of stage `k`, 1 to 4 (2.1). -/
def stageThreshold (c : Settings) (k : Nat) : Nat :=
  match k with
  | 1 => c.t1
  | 2 => c.t2
  | 3 => c.t3
  | _ => c.t4

/-- Stage `k` is entered at its threshold, or kept from a previous level stage at or above it while
the level stays at or above its threshold less h (R23). -/
def stageHolds (c : Settings) (previous : Option Nat) (level k : Nat) : Bool :=
  decide (stageThreshold c k ≤ level) ||
    match previous with
    | some p => decide (k ≤ p) && decide (stageThreshold c k ≤ level + c.hysteresis)
    | none => false

/-- The new level stage: the greatest stage that holds, 0 if none does (R23). -/
def newLevelStage (c : Settings) (previous : Option Nat) (level : Nat) : Nat :=
  if stageHolds c previous level 4 then 4
  else if stageHolds c previous level 3 then 3
  else if stageHolds c previous level 2 then 2
  else if stageHolds c previous level 1 then 1
  else 0

/-- The local stage taken from the floats and the probe (R25). -/
def floatStage (s : State) : Nat :=
  if highWet s || probeWet s then 3 else if lowWet s then 1 else 0

/-- The raise of the high float and the probe (R24). -/
def raisedStage (s : State) : Nat := if highWet s || probeWet s then 3 else 0

/-- The local stage as the level stage, the floats and the probe give it (R24 to R26). -/
def localStageOf (s : State) : Nat :=
  if operating s && !s.settings.sumpFitted then (if probeWet s then 3 else 0)
  else
    match s.stage.levelStage with
    | none => floatStage s
    | some k => if operating s then max k (raisedStage s) else floatStage s

/-- The local stage takes a new value: a report falls due, a rise to 3 or 4 places a STAGE CALL, and M
is recomputed (R27). Where the line controller does not run nothing is placed. R27 lists these
receivers "at that moment" without an order: that the report falls due first, then the STAGE CALL is
placed, then M and the site stage follow, is the model's DESIGN CHOICE (log entry 50). -/
def setLocal (v : Nat) (s : State) : State :=
  if v = s.stage.localStage then s
  else
    let old := s.stage.localStage
    let s := reportDue { s with stage := { s.stage with localStage := v } }
    let s := if old < v ∧ 3 ≤ v ∧ lineRuns s then
        placeFrame .stageCall (stagePayload v) .plain s
      else s
    recomputeM s

/-- The local stage is evaluated, and no evaluation is owed any more (R22). -/
def evaluateStage (s : State) : State :=
  setLocal (localStageOf s) { s with stage := { s.stage with evaluationWaits := false } }

/-- The level stage of a level update: formed from L, or NONE without one (R23, R25, R26). -/
def formLevelStage (s : State) : State :=
  let v := s.meas.level.map fun l => newLevelStage s.settings s.stage.levelStage l
  { s with stage := { s.stage with levelStage := v } }

end Sys2Proof.Machine
end

