-- ==== Sys2Proof/Machine/PumpOps.lean ====
section
/-! DEFINITION. What happens to a pump record: attempts and their ends (R50 to R55), trips (R57), rest and
run-on (R58, R59), dry-run protection (R62), the selector (R45 to R47), and the pumps added and
removed for demand (R43, R44). -/

namespace Sys2Proof.Machine

/-! ## Record changes -/

/-- The trouble count's maximum (R60). -/
def maxTrouble : Nat := 15

/-- The trouble count after one more trouble (R60). -/
def moreTrouble (r : Pump) : Pump := { r with trouble := saturate maxTrouble r.trouble 1 }

/-- The record in another state with no start in progress and every timer of the old state stopped;
history, trouble, last outcome and lockout cause stand. -/
def Pump.settleIn (st : PumpState) (r : Pump) : Pump :=
  { r with
    state := st
    attempt := none
    waitingSince := none
    attemptFrom := none
    settling := false
    retryUntil := none
    failedAt := none
    runOnUntil := none
    restUntil := none
    overRun := 0 }

/-- The record as the pump enters WAITING with an attempt number (R43, R47, R54). -/
def Pump.wait (now attempt : Nat) (r : Pump) : Pump :=
  { r.settleIn .waiting with attempt := some attempt, waitingSince := some now }

/-- The pump moves to the tail of the duty order (R42). -/
def toTail (p : Fin 4) (duty : List (Fin 4)) : List (Fin 4) :=
  if p ∈ duty then duty.filter (fun q => decide (q ≠ p)) ++ [p] else duty

/-- The pump enters RESTING and moves to the tail of the duty order (R42, R59). -/
def enterResting (p : Fin 4) (s : State) : State :=
  let r := { (s.pump p).settleIn .resting with
    restUntil := some (s.now + secs s.settings.restTime) }
  let t := putPump p r s
  { t with pumps := { t.pumps with duty := toTail p t.pumps.duty } }

/-- The pump enters WAITING with an attempt number, its waiting since set to this moment. -/
def enterWaiting (attempt : Nat) (p : Fin 4) (s : State) : State :=
  putPump p ((s.pump p).wait s.now attempt) s

/-- A RUN-ON pump returns to RUNNING: it keeps its started at, its run-on timer stops (R43). -/
def returnToRunning (p : Fin 4) (s : State) : State :=
  putPump p { s.pump p with state := .running, runOnUntil := none } s

/-- A RUNNING pump enters RUN-ON; with a run-on time of 0 it passes to RESTING at once (R44, R58). -/
def enterRunOn (p : Fin 4) (s : State) : State :=
  if s.settings.runOnTime = 0 then enterResting p s
  else
    putPump p { s.pump p with
      state := .runOn, runOnUntil := some (s.now + secs s.settings.runOnTime) } s

/-! ## Attempts (R50 to R55) -/

/-- The feedback time (R50). -/
def feedbackTime : Nat := secs 2
/-- The retry pause (R53). -/
def retryPause : Nat := secs 10
/-- How long a stably OPEN feedback fails an attempt or trips a pump (R51, R57). -/
def openLimitTime : Nat := secs 1

/-- The settle time t_s, in microseconds (R51). -/
def settleTime (s : State) : Nat := secs s.settings.settleTime

/-- The outcome class of a start that ends with the pump RUNNING (R55), by its trouble count then. -/
def outcomeOf (s : State) (attempt : Option Nat) (good : Bool) (r : Pump) : StartOutcome :=
  if good && decide (attempt = some 1) then .clean
  else if r.trouble < s.settings.troubleThreshold then .recovered
  else .recoveredOver

/-- Whether the current code of pump `p` stands at or above the trip code (R57). -/
def overTrip (s : State) (p : Fin 4) : Bool :=
  match s.meas.current.get p with
  | some c => decide (s.settings.tripCode ≤ c)
  | none => false

/-- The attempt of pump `p` ends GOOD or SLOW: the pump is RUNNING (R52). The overcurrent run begins
at this scan end (R57). -/
def settleAttempt (p : Fin 4) (good : Bool) (s : State) : State :=
  let r := s.pump p
  let r' := if good then r else moreTrouble r
  let r'' := { r'.settleIn .running with
    startedAt := some s.now
    outcome := outcomeOf s r.attempt good r'
    overRun := if overTrip s p then 1 else 0 }
  pumpsChanged handOver s (putPump p r'' s)

/-- The last attempt number (R53). -/
def lastAttempt : Nat := 3

/-- The attempt of pump `p` ends FAILED: RETRY-WAIT, or LOCKED-OUT after attempt 3 (R53). -/
def failAttempt (p : Fin 4) (s : State) : State :=
  let r := moreTrouble (s.pump p)
  let r' :=
    if r.attempt = some lastAttempt then
      { r.settleIn .lockedOut with lockout := some .start, outcome := .failed }
    else
      { r.settleIn .retryWait with
        attempt := r.attempt
        retryUntil := some (s.now + retryPause)
        failedAt := some s.now }
  pumpsChanged handOver s (putPump p r' s)

/-- The settle condition: the current code is at or below the settle code, or invalid (R51). -/
def settled (s : State) (p : Fin 4) : Bool :=
  match s.meas.current.get p with
  | some c => decide (c ≤ s.settings.settleCode)
  | none => true

/-- The feedback check passes on this scan end's values: feedback stably CLOSED, and the current code above the no-load code or
invalid (R50). -/
def feedbackPasses (s : State) (p : Fin 4) : Bool :=
  decide ((s.inputs.feedback.get p).stable = some .closed) &&
    match s.meas.current.get p with
    | some c => decide (s.settings.noLoadCode < c)
    | none => true

/-- The feedback of pump `p` has been stably OPEN for 1 s at the last scan end: a change of its stable
state at that scan end, which its own row has yet to hand over, has ended the 1 s (R51, R57). -/
def openTooLong (s : State) (p : Fin 4) : Bool :=
  decide ((s.inputs.feedback.get p).stable = some .opened) && !(s.inputs.feedback.get p).due &&
    scanEndSince (s.pump p).openSince openLimitTime s

/-- No more than `d` have passed since the attempt began, at the last scan end. -/
def withinAttempt (d : Nat) (s : State) (p : Fin 4) : Bool :=
  match (s.pump p).attemptFrom, s.meas.lastScan with
  | some u, some v => decide (v ≤ u + d)
  | _, _ => false

/-- The attempt is GOOD if it settles no later than t_s; with t_s = 2 also at the scan end of the
feedback check (R51; log entry 15). -/
def settlesGood (s : State) (p : Fin 4) : Bool :=
  withinAttempt (settleTime s) s p ||
    (decide (settleTime s = feedbackTime) && withinAttempt (feedbackTime + scanTime - 1) s p)

/-- The settle check of pump `p` at a scan end of its settle phase: the failure check comes first, and
the attempt settles no later than 2 × t_s (R51). -/
def settleCheck (s : State) (p : Fin 4) : State :=
  if decide ((s.pump p).state = .starting) && (s.pump p).settling && !openTooLong s p &&
      withinAttempt (2 * settleTime s) s p && settled s p then
    settleAttempt p (settlesGood s p) s
  else s

/-! ## Trips (R57) -/

/-- The consecutive scan ends of an overcurrent trip (R57). -/
def tripScans : Nat := 100

/-- The overcurrent run of pump `p` at a scan end (R57). -/
def overcurrentStep (s : State) (p : Fin 4) : State :=
  let r := s.pump p
  if r.state.turning then
    putPump p { r with overRun := if overTrip s p then min tripScans (r.overRun + 1) else 0 } s
  else s

/-- A running trip: RESTING at the tail of the duty order, or LOCKED-OUT with cause TRIPS when the
trouble count is then 15 (R57). -/
def trip (p : Fin 4) (s : State) : State :=
  let r := moreTrouble (s.pump p)
  let t :=
    if r.trouble = maxTrouble then
      putPump p { r.settleIn .lockedOut with lockout := some .trips } s
    else enterResting p (putPump p r s)
  pumpsChanged handOver s t

/-! ## Dry-run protection (R62) -/

/-- A pump that dry-run protection leaves in OFF (R62). -/
def dryRunPump (r : Pump) : Pump :=
  match r.state with
  | .waiting | .retryWait => r.settleIn .off
  | _ => r

/-- The pumps that dry-run protection sends to RESTING; where there are several, the order in which they
go to the tail of the duty order is free (R42, R62, log entry 13). -/
def dryRunOrder (s : State) : List (Fin 4) :=
  let ps := pumpIndices.filter fun p => (s.pump p).state.energised
  if ps.length ≤ 1 then ps else orderBy (fun p : Fin 4 => Config.freeRank s.free p.val) ps

/-- Dry-run protection: every contactor drops (R62). `old` is the state before the low float left WET,
whose load and candidate are the ones handed on last (R48, R65). -/
def dryRun (old s : State) : State :=
  let order := dryRunOrder s
  let t := if order.length ≤ 1 then s else useFree s
  let t := { t with pumps := { t.pumps with pump := t.pumps.pump.map dryRunPump } }
  pumpsChanged handOver old (order.foldl (fun u p => enterResting p u) t)

/-- Dry-run protection where the low float does not report WET (R62). -/
def dryRunIfDry (old s : State) : State :=
  if operating s && !lowWet s then dryRun old s else s

/-! ## The selector (R45 to R47) -/

/-- A HAND pump: in OFF and eligible it enters WAITING, outside the LISTEN window and with the low
float WET; in RUN-ON it returns to RUNNING (R47). -/
def handleHand (s : State) (p : Fin 4) : State :=
  if !selectorHand s p then s
  else if eligible s p && !windowRuns s && lowWet s then enterWaiting 1 p s
  else if (s.pump p).state = .runOn then returnToRunning p s
  else s

/-- The selector of pump `p`, which is fitted, has a new stable position, which its record takes (R40, R45
to R47). -/
def selectorTaken (p : Fin 4) (position : Option Position) (s : State) : State :=
  let r := { s.pump p with selector := position }
  match position with
  | some .off => putPump p (r.settleIn .disabled) s
  | none => putPump p r s
  | some _ =>
    if r.state = .disabled then
      handleHand (putPump p { r.settleIn .off with lockout := none } s) p
    else handleHand (putPump p r s) p

/-! ## Adding and removing pumps (R43, R44) -/

/-- The pump in RUN-ON whose started at is latest (R43). -/
def latestRunOn (s : State) : Option (Fin 4) :=
  greatestBy (fun p : Fin 4 => (s.pump p).startedAt.getD 0)
    (pumpIndices.filter fun p => decide ((s.pump p).state = .runOn))

/-- Step 1 of R43 and, when no pump is in RUN-ON, step 2, once. -/
def addOne (s : State) : State :=
  match latestRunOn s with
  | some p => returnToRunning p s
  | none =>
    if windowRuns s || !lowWet s then s
    else
      match s.pumps.duty.find? (fun p => eligible s p) with
      | some p => enterWaiting 1 p s
      | none => s

/-- A pump that demand may remove: its selector is not at HAND (R44). -/
def removable (s : State) (st : PumpState) (p : Fin 4) : Bool :=
  decide ((s.pump p).state = st) && !selectorHand s p

/-- The newest removable pump in WAITING, on equal times the one later in the duty order (R44). -/
def newestWaiting (s : State) : Option (Fin 4) :=
  greatestBy (fun p : Fin 4 => (s.pump p).waitingSince.getD 0)
    (s.pumps.duty.reverse.filter (removable s .waiting))

/-- The removable pump in RETRY-WAIT whose failed attempt ended latest (R44). -/
def latestRetry (s : State) : Option (Fin 4) :=
  greatestBy (fun p : Fin 4 => (s.pump p).failedAt.getD 0)
    (pumpIndices.filter (removable s .retryWait))

/-- The removable pump in RUNNING whose started at is earliest (R44). -/
def earliestRunning (s : State) : Option (Fin 4) :=
  leastBy (fun p : Fin 4 => (s.pump p).startedAt.getD 0)
    (pumpIndices.filter (removable s .running))

/-- One removal, by the order of R44. -/
def removeOne (s : State) : State :=
  match newestWaiting s with
  | some p => putPump p ((s.pump p).settleIn .off) s
  | none =>
    match latestRetry s with
    | some p => putPump p ((s.pump p).settleIn .off) s
    | none =>
      match earliestRunning s with
      | some p => enterRunOn p s
      | none => s

/-- At most `n` additions, while w is below n_req (R43). -/
def addPumps : Nat → State → State
  | 0, s => s
  | n + 1, s => if inService s < s.stage.wanted then addPumps n (addOne s) else s

/-- At most `n` removals, while w is above n_req (R44). -/
def removePumps : Nat → State → State
  | 0, s => s
  | n + 1, s => if s.stage.wanted < inService s then removePumps n (removeOne s) else s

/-- Pump control at a level update: HAND pumps first, then the shortfall or the surplus is made up
(R43, R44, R47). -/
def controlPumps (s : State) : State :=
  let t := pumpIndices.foldl handleHand s
  pumpsChanged handOver s (removePumps 4 (addPumps 4 t))

end Sys2Proof.Machine
end

