-- ==== Sys2Proof/Machine/WaterOps.lean ====
section
/-! DEFINITION. The floats and the probe: a change of stable state, the chatter watch (R12, R13), and what a
change of a reported state sets off in demand, dry-run protection and the fallback logic (R22, R62,
R180). -/

namespace Sys2Proof.Machine

/-! ## Filters and watches by input -/

/-- The filter of a float or the probe. -/
def waterFilter (s : State) (w : WaterInput) : Filter Water :=
  match w with
  | .lowFloat => s.inputs.lowFloat
  | .highFloat => s.inputs.highFloat
  | .probe => s.inputs.probe

/-- The chatter watch of a float or the probe. -/
def waterChatter (s : State) (w : WaterInput) : Chatter :=
  match w with
  | .lowFloat => s.inputs.lowChatter
  | .highFloat => s.inputs.highChatter
  | .probe => s.inputs.probeChatter

/-- The filter and the watch of a float or the probe are replaced. -/
def setWater (w : WaterInput) (f : Filter Water) (c : Chatter) (s : State) : State :=
  match w with
  | .lowFloat => { s with inputs := { s.inputs with lowFloat := f, lowChatter := c } }
  | .highFloat => { s with inputs := { s.inputs with highFloat := f, highChatter := c } }
  | .probe => { s with inputs := { s.inputs with probe := f, probeChatter := c } }

/-! ## The chatter watch (R12, R13) -/

/-- How long an entry stays in a change list (R12). -/
def changeTime : Nat := secs 10
/-- The entries that bring CHATTER (R12). -/
def chatterChanges : Nat := 8
/-- The quiet timer (R12). -/
def quietTime : Nat := secs 60

/-- A stable-state change at the watch of an input, `counted` unless it is the move out of UNKNOWN
(R10, R12). -/
def Chatter.change (now : Nat) (counted : Bool) (c : Chatter) : Chatter :=
  if c.chatter then { c with quietUntil := some (now + quietTime) }
  else if !counted then c
  else
    let kept := c.changes.filter (fun t => decide (now < t + changeTime)) ++ [now]
    if chatterChanges ≤ kept.length then ⟨true, [], some (now + quietTime)⟩
    else { c with changes := kept }

/-- The input is watched and reports: the floats always, the probe where it is fitted (R12, R18, R19). -/
def waterWatched (s : State) (w : WaterInput) : Bool :=
  match w with
  | .lowFloat | .highFloat => true
  | .probe => probeWatched s

/-- The oldest change that waits is received, and is shown to the watch (R10, R12). -/
def waterTaken (w : WaterInput) (s : State) : State :=
  let f := waterFilter s w
  let c := waterChatter s w
  setWater w f.take (if waterWatched s w then c.change s.now f.given.isSome else c) s

/-- An input in CHATTER whose quiet timer has run out (R13). -/
def quietOver (s : State) (w : WaterInput) : Bool :=
  (waterChatter s w).chatter && ranOut (waterChatter s w).quietUntil s

/-! ## What a change of a reported state sets off -/

/-- The reported state of any of the three differs between the two states. -/
def reportedDiffer (old s : State) : Bool :=
  decide (lowReported old ≠ lowReported s) || decide (highReported old ≠ highReported s) ||
    decide (probeReported old ≠ probeReported s)

/-- The run of the fallback logic after a change of the floats (R180). -/
def fallbackRun (old s : State) : State :=
  if !inFallback s then s
  else if lowReported old ≠ lowReported s ∧ lowWet s = false then
    { s with fallback := ⟨none, ⟨false, false, false, false⟩⟩ }
  else if highReported old ≠ highReported s ∧ highWet s = true ∧ s.fallback.run = none then
    { s with fallback := ⟨some s.now, ⟨false, false, false, false⟩⟩ }
  else s

/-- The three inputs, in the order in which a level update takes their changes and ends of CHATTER of one
scan end. The spec does not say whether the low float or the high float reaches the fallback logic first there; that the
low float does is the model's DESIGN CHOICE (log entry 54). -/
def waterInputs : List WaterInput := [.lowFloat, .highFloat, .probe]

/-- A change of a watched input still waits: one that its owners have not received, or the end of a
CHATTER (R10, R13). -/
def waterWaits (s : State) : Bool :=
  waterInputs.any fun w => waterWatched s w && ((waterFilter s w).due || quietOver s w)

/-- The evaluation of the local stage that a scan end owes, if it owes one: a level update that falls
on this scan end evaluates it; otherwise it waits until no other change of the scan end waits, so
that one evaluation covers them all (R22). -/
def settleStage (owed : Bool) (s : State) : State :=
  if !owed || s.meas.levelDue then s
  else if waterWaits s then { s with stage := { s.stage with evaluationWaits := true } }
  else evaluateStage s

/-- The owners receive the reported states as they changed since `old`: the fallback run and dry-run
protection follow at once, the local stage once for the scan end (R13, R22, R62, R180). The spec gives
no order to dry-run protection and the evaluation of one scan end; that dry-run protection comes
first, with all that its change of load hands on, is the model's DESIGN CHOICE (log entry 62). -/
def afterWater (old s : State) : State :=
  let t := fallbackRun old s
  let t := if lowReported old ≠ lowReported t then dryRunIfDry old t else t
  settleStage (reportedDiffer old s || s.stage.evaluationWaits) t

/-- A due change of a float or the probe is taken with all it sets off. -/
def takeWater (s : State) (w : WaterInput) : State :=
  if (waterFilter s w).due then afterWater s (waterTaken w s) else s

/-- The oldest entry of a change list leaves it once 10 s old (R12). -/
def dropOldChange (w : WaterInput) (s : State) : State :=
  let c := waterChatter s w
  match c.changes with
  | t :: ts =>
    if t + changeTime ≤ s.now then setWater w (waterFilter s w) { c with changes := ts } s else s
  | [] => s

/-- An input in CHATTER whose quiet timer has run out returns to CLEAR, and its owners receive the
change (R13). -/
def chatterEnds (w : WaterInput) (s : State) : State :=
  if quietOver s w then afterWater s (setWater w (waterFilter s w) Chatter.reset s) else s

end Sys2Proof.Machine
end

