-- ==== Sys2Proof/Machine/LevelOps.lean ====
section
/-! DEFINITION. The level update (R8), with disagreement (R9), rise rate (R14, R15), inflow (R16, R17), demand
(R32 to R35), and trim (R36); and the rate timer between level updates (R14). -/

namespace Sys2Proof.Machine

/-! ## Level and source (R8) -/

/-- The level and its source from the two loop levels (R8). -/
def formLevel (band : Nat) (a b : Option Nat) : Option Nat × LevelSource :=
  match a, b with
  | some x, some y =>
    if max x y - min x y ≤ band then (some ((x + y) / 2), .average) else (some (max x y), .higher)
  | some x, none => (some x, .loopA)
  | none, some y => (some y, .loopB)
  | none, none => (none, .lost)

/-- L and the level source of this level update; without the sump the source is NOT FITTED, and in
configuration fallback it is LOST (R8, R18, R19). -/
def takeLevel (s : State) : State :=
  let r :=
    if operating s && !s.settings.sumpFitted then (none, .notFitted)
    else formLevel s.settings.agreeBand (loopLevel s s.meas.loopA) (loopLevel s s.meas.loopB)
  { s with meas := { s.meas with level := r.1, source := r.2, levelDue := false } }

/-! ## Disagreement (R9) -/

/-- How long a disagreement run lasts before DISAGREE is raised (R9). -/
def disagreeTime : Nat := secs 30

/-- The disagreement state at a level update (R9). -/
def disagreement (s : State) : State :=
  match s.meas.source with
  | .higher =>
    let run := s.meas.disagreeRun.getD s.now
    { s with meas := { s.meas with
      disagreeRun := some run
      disagree := s.meas.disagree || decide (run + disagreeTime ≤ s.now) } }
  | .average => { s with meas := { s.meas with disagreeRun := none, disagree := false } }
  | _ => { s with meas := { s.meas with disagreeRun := none } }

/-! ## Rise rate (R14, R15) -/

/-- The rate timer's 10 s in scan ends (R14). -/
def rateScans : Nat := 500

/-- A change of level clamped to −2000 to +2000 (R14). -/
def levelChange (level previous : Nat) : Int :=
  max (-2000) (min 2000 ((level : Int) - previous))

/-- The filtered rate, truncated toward zero (R14). -/
def nextRate (rate change : Int) : Int := Int.tdiv (3 * rate + change) 4

/-- One rate computation, with the level of the most recent level update (R14). -/
def computeRate (s : State) : State :=
  match s.meas.level, s.meas.levelPrev with
  | some l, some p =>
    { s with meas := { s.meas with
      rate := nextRate s.meas.rate (levelChange l p)
      levelPrev := some l
      rateTimer := some rateScans } }
  | _, _ => s

/-- The rate state at a level update: lost, restarted, or computed where the timer runs out at this
scan end (R8, R14, R15). -/
def updateRate (s : State) : State :=
  match s.meas.level with
  | none => { s with meas := { s.meas with rateValid := false, levelPrev := none, rateTimer := none } }
  | some l =>
    if s.meas.rateValid then if s.meas.rateTimer = some 0 then computeRate s else s
    else
      { s with meas := { s.meas with
        rate := 0, rateValid := true, levelPrev := some l, rateTimer := some rateScans } }

/-! ## Inflow (R16, R17) -/

/-- The most that Q_in holds (R17). -/
def maxInflow : Nat := 65535

/-- The speed of pump `p` in percent for the outflow estimate (R16). -/
def pumpSpeed (s : State) (p : Fin 4) : Nat :=
  if s.settings.variableTrim ∧ trimPump s = some p then s.stage.trim else 100

/-- Q_out: what the pumps in RUNNING or RUN-ON deliver (R16). -/
def outflowOf (s : State) : Nat :=
  sumOf (pumpIndices.map fun p =>
    if (s.pump p).state.turning then s.settings.ratedFlow * pumpSpeed s p / 100 else 0)

/-- Q_in from Q_out and the rate: Q_out + truncate(A × R_f ÷ 10), clamped (R17). -/
def inflowOf (outflow area : Nat) (rate : Int) : Nat :=
  min maxInflow ((outflow : Int) + Int.tdiv (area * rate) 10).toNat

/-- Q_out and Q_in at a level update (R16, R17). Outside normal operation at a sump station the rate and
the inflow are not computed (R18, R19). -/
def updateInflow (s : State) : State :=
  if operating s && s.settings.sumpFitted then
    let q := outflowOf s
    match s.meas.level with
    | some _ =>
      { s with meas := { s.meas with
        outflow := q, inflow := inflowOf q s.settings.area s.meas.rate, inflowValid := true } }
    | none => { s with meas := { s.meas with outflow := q, inflowValid := false } }
  else { s with meas := { s.meas with inflowValid := false } }

/-! ## Demand (R32 to R35) -/

/-- A quotient rounded up. -/
def ceilDiv (a b : Nat) : Nat := (a + b - 1) / b

/-- n_flow (R32). -/
def flowPumps (s : State) : Nat := ceilDiv s.meas.inflow s.settings.ratedFlow

/-- n_req with a valid level (R33). -/
def demandOfLevel (s : State) (level : Nat) : Nat :=
  if 3 ≤ s.stage.localStage then available s
  else if level < s.settings.t0 then 0
  else if s.stage.localStage = 0 then min (runningOrStarting s) (max (flowPumps s) 1)
  else min (max (flowPumps s) s.stage.localStage) (available s)

/-- n_req with the level LOST (R34). -/
def demandOfFloats (s : State) : Nat :=
  if lowWet s then if highWet s then available s else runningOrStarting s else 0

/-- n_req at this level update (R33 to R35). -/
def demandOf (s : State) : Nat :=
  if !operating s || windowRuns s || !s.settings.sumpFitted then 0
  else
    match s.meas.level with
    | some l => demandOfLevel s l
    | none => demandOfFloats s

/-! ## Trim (R36, R37) -/

/-- The trim speed for k pumps running, k at least 1 (R36): the ceiling of the pumps' share of the
inflow in percent, between s_min and 100. -/
def trimSpeed (c : Settings) (inflow k : Nat) : Nat :=
  max c.minSpeed (min 100 (ceilDiv (100 * (inflow - (k - 1) * c.ratedFlow)) c.ratedFlow))

/-- The trim speed s at a level update (R36). -/
def updateTrim (s : State) : State :=
  if operating s && s.settings.variableTrim then
    let v :=
      if runningCount s = 0 || !s.meas.inflowValid then 100
      else trimSpeed s.settings s.meas.inflow (runningCount s)
    refreshSpeed { s with stage := { s.stage with trim := v } }
  else s

/-! ## The level update (R8) -/

/-- The measurement part of a level update, in the order of R8. -/
def measureLevel (s : State) : State := updateInflow (updateRate (disagreement (takeLevel s)))

/-- Pump demand formed and handed to pump control, then the trim speed; a forming of an intent that
waited may be tried again (R35, R36, R43, R113). -/
def updateDemand (s : State) : State :=
  if operating s then
    let t := { s with stage := { s.stage with wanted := demandOf s } }
    let t := { t with supply := { t.supply with formWaits := false } }
    handOver (updateTrim (controlPumps t))
  else s

/-- The changes of floats and probe and the ends of CHATTER that fall on the scan end of a level update,
input by input in the order of `waterInputs`. R13 does not say which comes first where an input's
change falls on the very scan end at which its quiet timer runs out; that the change comes first here,
so that the timer restarts and CHATTER stays, is the model's DESIGN CHOICE (log entry 55). -/
def waterAtUpdate (s : State) : State :=
  waterInputs.foldl (fun u w => chatterEnds w (takeWater u w)) s

/-- The whole level update: changes of floats and probe and ends of CHATTER that fall on this scan end
first, then level, disagreement, rate, inflow, local stage, demand and trim (R1, R8, R22, R35). What
of R13's meeting of a change and a quiet timer is the model's DESIGN CHOICE (log entry 55)
`waterAtUpdate` says. -/
def levelUpdate (s : State) : State :=
  updateDemand (evaluateStage (formLevelStage (measureLevel (waterAtUpdate s))))

/-- The rate timer has run out at a scan end that is not a level update (R14). -/
def rateTimerEnds (s : State) : Bool :=
  operating s && s.meas.rateValid && decide (s.meas.rateTimer = some 0) && !s.meas.levelDue

end Sys2Proof.Machine
end

