-- ==== Sys2Proof/Machine/Sampling.lean ====
section
/-! DEFINITION. One scan of the converter, one sample of the digital inputs: the reference (R2), the
loops (R3 to R6), the input filters (R10, R11). -/

namespace Sys2Proof.Machine

/-! ## Loops (R3 to R6) -/

/-- Lowest and highest in-range loop codes (R3). -/
def lowestInRange : Nat := 480
/-- The highest in-range loop code (R3). -/
def highestInRange : Nat := 3520
/-- The run of LOW or HIGH samples that faults a loop (R4). -/
def faultRun : Nat := 3
/-- The recovery count that returns a loop to NORMAL, and the good-reference run that returns the
converter to GOOD (R2, R5). -/
def recoveryRun : Nat := 50

/-- A valid sample joins the tail of the average list; the oldest of eight leaves it (R6). -/
def joinAverage (average : List Nat) (c : Nat) : List Nat :=
  if average.length < averageLength then average ++ [c] else average.drop 1 ++ [c]

/-- The loop enters a fault state: its recovery count returns to 0, and its average is emptied
(R4). -/
def Loop.enterFault (f : LoopFault) (l : Loop) : Loop :=
  if l.fault = f then l else { l with fault := f, recovery := 0, average := [] }

/-- One delivered loop sample (R3 to R5). -/
def Loop.sample (l : Loop) (c : Nat) : Loop :=
  if c < lowestInRange then
    let l := { l with lowRun := l.lowRun + 1, highRun := 0, recovery := 0 }
    if faultRun ≤ l.lowRun then l.enterFault .opened else l
  else if highestInRange < c then
    let l := { l with highRun := l.highRun + 1, lowRun := 0, recovery := 0 }
    if faultRun ≤ l.highRun then l.enterFault .over else l
  else
    let l := { l with lowRun := 0, highRun := 0 }
    if l.fault = .normal then { l with average := joinAverage l.average c }
    else if l.recovery + 1 < recoveryRun then { l with recovery := l.recovery + 1 }
    else { l with fault := .normal, recovery := 0, average := [c] }

/-- The loop as it enters a converter fault: average and run counts cleared, fault state kept
(R2). -/
def Loop.clear (l : Loop) : Loop :=
  { l with lowRun := 0, highRun := 0, recovery := 0, average := [] }

/-! ## The reference and the delivery (R1, R2) -/

/-- A good scan: its reference code lies in 2000 to 2096 (R2). -/
def goodReference (sc : Scan) : Bool :=
  decide (2000 ≤ sc.reference.toNat) && decide (sc.reference.toNat ≤ 2096)

/-- The seven analog values are invalid (R2, R19). -/
def Meas.noCodes (m : Meas) : Meas :=
  { m with codeA := none, codeB := none, current := ⟨none, none, none, none⟩, luminance := none }

/-- The seven codes of a scan are delivered; the loops take their samples where they are evaluated
(R1, R3, R18). -/
def Meas.deliver (loops : Bool) (sc : Scan) (m : Meas) : Meas :=
  { m with
    codeA := some sc.loopA.toNat
    codeB := some sc.loopB.toNat
    current := Four.map (fun c => some c.toNat) sc.current
    luminance := some sc.luminance.toNat
    loopA := if loops then m.loopA.sample sc.loopA.toNat else m.loopA
    loopB := if loops then m.loopB.sample sc.loopB.toNat else m.loopB }

/-- The bad-reference run that puts the converter in FAULTED (R2). -/
def badLimit : Nat := 3

/-- The converter enters FAULTED (R2). -/
def Meas.enterFaulted (m : Meas) : Meas :=
  { m.noCodes with
    faulted := true, badRun := badLimit, goodRun := 0
    loopA := m.loopA.clear, loopB := m.loopB.clear }

/-- The reference code is judged, and the scan's samples are delivered if the converter is then GOOD
(R1, R2). -/
def Meas.scan (loops : Bool) (sc : Scan) (m : Meas) : Meas :=
  if m.faulted then
    if goodReference sc then
      if m.goodRun + 1 < recoveryRun then { m with goodRun := m.goodRun + 1 }
      else Meas.deliver loops sc { m with faulted := false, badRun := 0, goodRun := 0 }
    else { m with goodRun := 0 }
  else if goodReference sc then Meas.deliver loops sc { m with badRun := 0 }
  else if m.badRun + 1 < badLimit then Meas.deliver loops sc { m with badRun := m.badRun + 1 }
  else m.enterFaulted

/-- Scan ends to a level update (R1). -/
def updateScans : Nat := 8

/-- The count of scan ends rises, a level update is due at every eighth, and the rate timer counts one
scan end (R1, R14). -/
def Meas.count (now : Nat) (m : Meas) : Meas :=
  { m with
    scanCount := m.scanCount + 1
    lastScan := some now
    sampleFrom := some now
    levelDue := decide ((m.scanCount + 1) % updateScans = 0)
    rateTimer := m.rateTimer.map (· - 1) }

/-! ## The digital inputs (R10, R11) -/

/-- One sample of a gate channel's inputs (R10). -/
def GateInputs.sample (g : GateInputs) (p : GatePins) : GateInputs :=
  ⟨g.openLimit.sample p.openLimit, g.closedLimit.sample p.closedLimit,
    g.obstruction.sample p.obstruction⟩

/-- Every digital input is sampled once (R1, R10), those of equipment that is not fitted too, but for
the floats where they are not filtered (R10, R18, R19). -/
def Inputs.sample (floats : Bool) (p : Pins) (i : Inputs) : Inputs :=
  { i with
    lowFloat := if floats then i.lowFloat.sample p.lowFloat else i.lowFloat
    highFloat := if floats then i.highFloat.sample p.highFloat else i.highFloat
    probe := i.probe.sample p.probe
    selector := Four.map₂ (fun f v => f.sample v) i.selector
      (Four.map₂ decodeSelector p.selectorAuto p.selectorHand)
    feedback := Four.map₂ (fun f v => f.sample v) i.feedback p.feedback
    gate := ⟨i.gate.c0.sample p.gate.c0, i.gate.c1.sample p.gate.c1⟩
    holdKey := i.holdKey.sampleHold p.holdKey
    forceCloseKey := i.forceCloseKey.sample p.forceCloseKey
    reopenKey := i.reopenKey.samplePress p.reopenKey
    panelResetKey := i.panelResetKey.samplePress p.panelResetKey
    dayNight := i.dayNight.sample p.dayNight
    supplyMode := i.supplyMode.sample p.supplyMode }

/-- Every digital input of the station is sampled once. -/
def sampleInputs (p : Pins) (s : State) : State :=
  { s with inputs := s.inputs.sample (floatsFiltered s) p }

/-- The converter scans: from the opening of the LISTEN window, except in clock fallback (R1). -/
def scanning (s : State) : Bool := lineRuns s

/-- The 20 ms from one sampling of the digital inputs to the next have passed (R1, R19). -/
def sampleOver (s : State) : Bool := lastedFor s.meas.sampleFrom scanTime s

/-- Slot 7 of the scan under way completes: its 20 ms have passed (R1). -/
def scanOver (s : State) : Bool := scanning s && sampleOver s

/-- The measurement part of a scan end: the reference judged, samples delivered, the scan counted and
the digital inputs sampled, in that order (R1). -/
def measureScan (sc : Scan) (p : Pins) (s : State) : State :=
  sampleInputs p { s with meas := (s.meas.scan (loopsEvaluated s) sc).count s.now }

/-- The converter delivered this scan's samples (R2): it is GOOD afterwards. -/
def delivered (s : State) : Bool := !s.meas.faulted

end Sys2Proof.Machine
end

