-- ==== Sys2Proof/Machine/ScanOps.lean ====
section
/-! DEFINITION. What a scan end sets off in normal operation: the overcurrent runs (R57), the settle checks
(R51), the entrance step and its runs (R151, R152), and dry-run protection (R62). -/

namespace Sys2Proof.Machine

/-! ## The entrance step (R151, R152) -/

/-- The highest of `n` steps in use whose threshold is at or below the code (R151). -/
def stepFor (c : Settings) (n code : Nat) : Nat :=
  ((List.range n).filter fun k => decide (stepThreshold c k ≤ code)).foldl max 0

/-- The up run's condition at code `c` with step `k` of `n` in use (R151). -/
def upCondition (st : Settings) (n k c : Nat) : Bool :=
  decide (k + 1 < n) && decide (stepThreshold st (k + 1) ≤ c)

/-- The down run's condition at code `c` with step `k` (R151). -/
def downCondition (st : Settings) (k c : Nat) : Bool :=
  decide (0 < k) && decide (c + st.luminanceHysteresis < stepThreshold st k)

/-- A run begins, is kept or ends at this scan end (R151). -/
def stepRun (now : Nat) (holds : Bool) (run : Option Nat) : Option Nat :=
  if holds then some (run.getD now) else none

/-- The entrance step takes a value with both runs absent, and the lighting is recomputed (R151,
R154). -/
def setStep (k : Nat) (s : State) : State :=
  relight handOver { s with lights := { s.lights with step := some k, upRun := none, downRun := none } }

/-- The entrance step and its runs at a scan end (R151, R152). -/
def entranceScan (s : State) : State :=
  match s.meas.luminance, s.lights.step with
  | some c, none => setStep (stepFor s.settings s.lights.steps c) s
  | some c, some k =>
    { s with lights := { s.lights with
      upRun := stepRun s.now (upCondition s.settings s.lights.steps k c) s.lights.upRun
      downRun := stepRun s.now (downCondition s.settings k c) s.lights.downRun } }
  | none, _ => { s with lights := { s.lights with upRun := none, downRun := none } }

/-- How long a run lasts before the step moves (R151). -/
def stepTime : Nat := secs 30

/-- The step moves by one where a run has lasted 30 s at a scan end (R151). -/
def stepMove (s : State) : State :=
  match s.lights.step with
  | none => s
  | some k =>
    if scanEndSince s.lights.upRun stepTime s then setStep (k + 1) s
    else if scanEndSince s.lights.downRun stepTime s then setStep (k - 1) s
    else s

/-! ## The whole scan end -/

/-- What a scan end sets off in normal operation. The spec gives no order to the pumps' settle checks
(R51) and the setting of the entrance step (R151), which may each change the committed load and hand
on H at the same scan end; that the pumps come first is the model's DESIGN CHOICE (log entry 57). -/
def afterScan (s : State) : State :=
  if operating s then
    let t := entranceScan (pumpIndices.foldl settleCheck (pumpIndices.foldl overcurrentStep s))
    dryRunIfDry t t
  else s

/-- A scan end: measured, sampled, and judged (R1). -/
def scanStep (sc : Scan) (p : Pins) (s : State) : State := afterScan (measureScan sc p s)

/-- The loop given. -/
def loopOf (s : State) (l : LoopId) : Loop :=
  match l with
  | .loopA => s.meas.loopA
  | .loopB => s.meas.loopB

/-- This scan's sample puts the loop in another fault state than NORMAL (R4). -/
def loopFaults (l : LoopId) (sc : Scan) (s : State) : Bool :=
  let after := loopOf { s with meas := s.meas.scan (loopsEvaluated s) sc } l
  decide (after.fault ≠ (loopOf s l).fault) && decide (after.fault ≠ .normal)

/-- This scan's sample returns the loop to NORMAL (R5). -/
def loopRecovers (l : LoopId) (sc : Scan) (s : State) : Bool :=
  let after := loopOf { s with meas := s.meas.scan (loopsEvaluated s) sc } l
  decide (after.fault ≠ (loopOf s l).fault) && decide (after.fault = .normal)

/-- This scan is the third consecutive bad one in GOOD (R2). -/
def converterFaults (sc : Scan) (s : State) : Bool :=
  !s.meas.faulted && !goodReference sc && decide (badLimit ≤ s.meas.badRun + 1)

/-- This scan is the fiftieth consecutive good one in FAULTED (R2). -/
def converterRecovers (sc : Scan) (s : State) : Bool :=
  s.meas.faulted && goodReference sc && decide (recoveryRun ≤ s.meas.goodRun + 1)

end Sys2Proof.Machine
end

