-- ==== Sys2Proof/Machine/PumpEvents.lean ====
section
/-! DEFINITION. The pump events that come at a moment of their own: the feedback and its checks (R50, R51,
R57), the pauses and the history (R54, R56), run-on and rest (R58, R59), the selector (R45 to R47)
and the orders (R63, R64). -/

namespace Sys2Proof.Machine

/-- A record of pump `p` is replaced and what follows is handed on. -/
def changePump (p : Fin 4) (r : Pump) (s : State) : State :=
  pumpsChanged handOver s (putPump p r s)

/-! ## Feedback (R10, R57) -/

/-- The new feedback of pump `p` is received; the 1 s OPEN measure starts or ends (R57). -/
def feedbackTaken (p : Fin 4) (s : State) : State :=
  let f := (s.inputs.feedback.get p).take
  let t := { s with inputs := { s.inputs with feedback := s.inputs.feedback.set p f } }
  if operating t then
    putPump p { t.pump p with openSince := if f.given = some .opened then some t.now else none } t
  else t

/-! ## Attempts (R50, R51) -/

/-- The feedback check of pump `p` is made now: it is STARTING, not yet in its settle phase, and a scan
end has come 2 s after its entry (R50). -/
def checkDue (p : Fin 4) (s : State) : Bool :=
  operating s && decide ((s.pump p).state = .starting) && !(s.pump p).settling &&
    scanEndSince (s.pump p).attemptFrom feedbackTime s

/-- The feedback check: the attempt fails, or enters its settle phase and is tried at once (R50). -/
def feedbackChecked (p : Fin 4) (s : State) : State :=
  if feedbackPasses s p then settleCheck (putPump p { s.pump p with settling := true } s) p
  else failAttempt p s

/-- The attempt of pump `p` fails on its feedback (R51). -/
def lossDue (p : Fin 4) (s : State) : Bool :=
  operating s && decide ((s.pump p).state = .starting) && (s.pump p).settling && openTooLong s p

/-- The attempt of pump `p` has not settled at the first scan end at or after 2 × t_s (R51). -/
def timeoutDue (p : Fin 4) (s : State) : Bool :=
  operating s && decide ((s.pump p).state = .starting) &&
    scanEndSince (s.pump p).attemptFrom (2 * settleTime s) s

/-! ## The retry pause and the start history (R54, R56) -/

/-- How long an entry stays in a start history (R56). -/
def historyTime : Nat := secs 3600

/-- The pump enters WAITING with its next attempt number (R54). -/
def nextAttempt (p : Fin 4) (s : State) : State :=
  changePump p ((s.pump p).wait s.now ((s.pump p).attempt.getD 0 + 1)) s

/-- A pump stranded in RETRY-WAIT makes its next attempt once its history has room and no LISTEN
window runs (R54, R87; log entry 20). -/
def leaveRetry (s : State) (p : Fin 4) : State :=
  if (s.pump p).state = .retryWait ∧ (s.pump p).retryUntil = none ∧ historyRoom s (s.pump p) ∧
      windowRuns s = false then nextAttempt p s else s

/-- The end of a retry pause: the next attempt, or stranded on a full history or in the LISTEN window
(R54, R87). -/
def pauseEnds (p : Fin 4) (s : State) : State :=
  leaveRetry (putPump p { s.pump p with retryUntil := none } s) p

/-- The retry pause of pump `p` has run out. -/
def pauseOver (p : Fin 4) (s : State) : Bool :=
  operating s && decide ((s.pump p).state = .retryWait) && ranOut (s.pump p).retryUntil s

/-- The oldest entry of a start history is 3600 s old (R56). -/
def historyAged (p : Fin 4) (s : State) : Bool :=
  operating s &&
    match (s.pump p).history with
    | t :: _ => decide (t + historyTime ≤ s.now)
    | [] => false

/-- An entry leaves the history of pump `p`, which lets a stranded pump into WAITING (R54, R56). -/
def historyLeaves (p : Fin 4) (s : State) : State :=
  leaveRetry (putPump p { s.pump p with history := (s.pump p).history.drop 1 } s) p

/-! ## Trips, run-on, rest (R57 to R59) -/

/-- The overcurrent run of pump `p` is complete (R57). -/
def overcurrentDue (p : Fin 4) (s : State) : Bool :=
  operating s && (s.pump p).state.turning && decide (tripScans ≤ (s.pump p).overRun)

/-- The feedback loss of pump `p` is complete (R57). -/
def feedbackLossDue (p : Fin 4) (s : State) : Bool :=
  operating s && (s.pump p).state.turning && openTooLong s p

/-- The run-on timer of pump `p` has run out. -/
def runOnOver (p : Fin 4) (s : State) : Bool :=
  operating s && decide ((s.pump p).state = .runOn) && ranOut (s.pump p).runOnUntil s

/-- The end of the run-on time (R58). -/
def runOnEnds (p : Fin 4) (s : State) : State := pumpsChanged handOver s (enterResting p s)

/-- The rest timer of pump `p` has run out. -/
def restOver (p : Fin 4) (s : State) : Bool :=
  operating s && decide ((s.pump p).state = .resting) && ranOut (s.pump p).restUntil s

/-- The end of the rest time (R59). -/
def restEnds (p : Fin 4) (s : State) : State := changePump p ((s.pump p).settleIn .off) s

/-! ## The selector (R45 to R47) -/

/-- The new position of pump `p`'s selector is received, and in normal operation a fitted pump follows
it; in fallback its record stands (R45 to R47, R67), and the selector of a pump that is not fitted is
unused (R40). -/
def selectorChanged (p : Fin 4) (s : State) : State :=
  let f := (s.inputs.selector.get p).take
  let t := { s with inputs := { s.inputs with selector := s.inputs.selector.set p f } }
  if operating t && decide ((t.pump p).state ≠ .notFitted) then
    pumpsChanged handOver s (selectorTaken p f.given t)
  else t

/-! ## The panel reset key and the orders (R60, R63, R64) -/

/-- The trouble count of a fitted pump that is not locked out and holds no lockout cause returns to 0
(R60). -/
def panelClear (r : Pump) : Pump :=
  if r.state = .notFitted ∨ r.state = .lockedOut ∨ r.lockout.isSome then r else { r with trouble := 0 }

/-- CLEAR LOCKOUT on a fitted pump (R63). -/
def clearLockout (p : Fin 4) (s : State) : State × Result :=
  let r := s.pump p
  if r.lockout.isNone then (s, .wrongState)
  else if r.state = .lockedOut then
    (changePump p { r.settleIn .off with lockout := none } s, .done)
  else (putPump p { r with lockout := none } s, .done)

/-- CLEAR PUMP RECORD on a fitted pump (R64). -/
def clearPumpRecord (p : Fin 4) (s : State) : State × Result :=
  (putPump p { s.pump p with trouble := 0, outcome := .clean } s, .done)

end Sys2Proof.Machine
end

