-- ==== Sys2Proof/Machine/GateOps.lean ====
section
/-! DEFINITION. The gate events: limits, arrivals, conflicts and drift (R132, R141, R142, R144), obstruction
(R131, R133), the hold key (R134, R135), reopen requests (R137), the travel limit (R140) and the
clearing of faults (R143). -/

namespace Sys2Proof.Machine

/-- The gate inputs of channel `c` are replaced. -/
def setGateInputs (c : Fin 2) (g : GateInputs) (s : State) : State :=
  { s with inputs := { s.inputs with gate := s.inputs.gate.set c g } }

/-- The filter of a limit. -/
def limitFilter (s : State) (c : Fin 2) (l : LimitId) : Filter Switch :=
  match l with
  | .openLimit => (s.inputs.gate.get c).openLimit
  | .closedLimit => (s.inputs.gate.get c).closedLimit

/-- The new state of a limit is received. -/
def takeLimit (c : Fin 2) (l : LimitId) (s : State) : State :=
  let g := s.inputs.gate.get c
  match l with
  | .openLimit => setGateInputs c { g with openLimit := g.openLimit.take } s
  | .closedLimit => setGateInputs c { g with closedLimit := g.closedLimit.take } s

/-! ## Limits (R132, R141, R142, R144) -/

/-- The travel toward open begins from a drift, HELD with the hold key ACTIVE (R142). -/
def driftOpen (c : Fin 2) (s : State) : State :=
  if 3 ≤ s.stage.site then arrive .unknown c s
  else if holdActive s then
    putGate c { dropDrive s.now (s.gate c) with
      state := .held, direction := some .open_, used := 0 } s
  else beginOpen c s

/-- A limit has let go with no drive on: the channel is re-driven once, or is in FAULT on a second
drift (R142). -/
def drift (c : Fin 2) (s : State) : State :=
  if (s.gate c).driftAt.isSome then enterFault .drift c s
  else
    let t := putGate c { s.gate c with driftAt := some s.now } s
    if (s.gate c).state = .closed then beginClose c t else driftOpen c t

/-- A limit has become stably ACTIVE, without a conflict (R132, R144). R132 tests the limit "at each
scan end" and ends a travel when it "becomes ACTIVE": that a limit which stands ACTIVE already when
its travel begins ends nothing before it has let go and become ACTIVE again is the model's DESIGN
CHOICE (log entry 46). R146 takes a channel's state from its limits at the first scan end at which both
are stable, and a closing from UNKNOWN may begin before; that such a travel and its travel used go on,
as R132 has it, unless the closed limit or a conflict ends them, is the model's DESIGN CHOICE (log
entry 60). -/
def limitReached (c : Fin 2) (l : LimitId) (s : State) : State :=
  match l, (s.gate c).state, (s.gate c).direction with
  | .openLimit, .opening, _ => arrive .opened c s
  | .openLimit, .unknown, _ => arrive .opened c s
  | .openLimit, .held, some .open_ => arrive .opened c s
  | .closedLimit, .closing, _ => arrive .closed c s
  | .closedLimit, .unknown, _ => arrive .closed c s
  | .closedLimit, .suspended, _ => arrive .closed c s
  | .closedLimit, .held, some .close => arrive .closed c s
  | _, _, _ => s

/-- A limit has become stably INACTIVE (R142). -/
def limitLeft (c : Fin 2) (l : LimitId) (s : State) : State :=
  match l, (s.gate c).state with
  | .openLimit, .opened => drift c s
  | .closedLimit, .closed => drift c s
  | _, _ => s

/-- The channel follows its limits after the change of limit `l` was received: the conflict is judged
on the stable states of the scan end, so that two limits which change there give one outcome,
whichever row comes first; the change received is what reaches or leaves a limit (R141, R132,
R142). -/
def followLimit (c : Fin 2) (l : LimitId) (s : State) : State :=
  if (s.gate c).state = .notFitted ∨ (s.gate c).state = .fault then s
  else if limitActive s c .openLimit && limitActive s c .closedLimit then
    enterFault .limitConflict c s
  else if (limitFilter s c l).given = some .active then limitReached c l s
  else limitLeft c l s

/-- A limit's new stable state (R132, R141, R142, R144). -/
def limitChanged (c : Fin 2) (l : LimitId) (s : State) : State :=
  let t := takeLimit c l s
  if operating t then gatesChanged handOver s (followLimit c l t) else t

/-- How long a drift time is held (R142). -/
def driftTime : Nat := secs 600

/-- The drift time of channel `c` is 10 min old. -/
def driftAged (c : Fin 2) (s : State) : Bool :=
  operating s && lastedFor (s.gate c).driftAt driftTime s

/-- The drift time becomes absent (R142). -/
def driftLapses (c : Fin 2) (s : State) : State := putGate c { s.gate c with driftAt := none } s

/-! ## Obstruction (R131, R133) -/

/-- The new state of channel `c`'s obstruction input is received. -/
def takeObstruction (c : Fin 2) (s : State) : State :=
  let g := s.inputs.gate.get c
  setGateInputs c { g with obstruction := g.obstruction.take } s

/-- The clear-lane measure follows the obstruction input (R131, R133). -/
def followLane (c : Fin 2) (s : State) : State :=
  let clear := decide ((s.inputs.gate.get c).obstruction.given = some .inactive)
  putGate c { s.gate c with clearSince := if clear then some s.now else none } s

/-- An obstruction just received suspends a channel in CLOSING (R133). -/
def suspendIfObstructed (c : Fin 2) (s : State) : State :=
  if (s.inputs.gate.get c).obstruction.given = some .active ∧ (s.gate c).state = .closing then
    suspend c s
  else s

/-- The obstruction input's new stable state (R131, R133). -/
def obstructionChanged (c : Fin 2) (s : State) : State :=
  let t := takeObstruction c s
  if operating t then
    gatesChanged handOver s (suspendIfObstructed c (followLane c t))
  else t

/-! ## The hold key (R134, R135) -/

/-- The new state of the hold key is received. -/
def takeHold (s : State) : State :=
  { s with inputs := { s.inputs with holdKey := s.inputs.holdKey.take } }

/-- A channel as the hold key becomes ACTIVE (R134). -/
def holdChannel (s : State) (c : Fin 2) : State :=
  match (s.gate c).state with
  | .closing | .opening | .suspended =>
    putGate c { dropDrive s.now (s.gate c) with state := .held } s
  | _ => s

/-- A channel as the hold key leaves ACTIVE (R135). A change of the obstruction at the same scan end
counts whichever of the two is taken first. -/
def releaseChannel (s : State) (c : Fin 2) : State :=
  match (s.gate c).state, (s.gate c).direction with
  | .held, some .close =>
    if obstructed s c || !closingAllowed s c then putGate c { s.gate c with state := .suspended } s
    else resumeClose c s
  | .held, some .open_ => putGate c (travel .open_ s (s.gate c)) s
  | _, _ => s

/-- The hold key has become ACTIVE (R134). -/
def holdPressed (s : State) : State :=
  let t := takeHold s
  if operating t then gatesChanged handOver s (channels.foldl holdChannel t) else t

/-- The hold key has left ACTIVE (R135). -/
def holdReleased (s : State) : State :=
  let t := takeHold s
  if operating t then gatesChanged handOver s (channels.foldl releaseChannel t) else t

/-! ## The other keys and times -/

/-- The force-close key's new stable state (R131, R133). -/
def forceCloseChanged (s : State) : State :=
  let t := { s with inputs := { s.inputs with forceCloseKey := s.inputs.forceCloseKey.take } }
  if operating t then gatesChanged handOver s t else t

/-- The channel takes a reopen request from the key: a flood gate in CLOSED or UNKNOWN (R137). -/
def requestReopen (s : State) (c : Fin 2) : State :=
  if gateKind s c = .floodgate ∧ ((s.gate c).state = .closed ∨ (s.gate c).state = .unknown) then
    putGate c { s.gate c with reopen := true } s
  else s

/-- The reopen key has become ACTIVE (R137). -/
def reopenPressed (s : State) : State :=
  let t := { s with inputs := { s.inputs with reopenKey := s.inputs.reopenKey.take } }
  if operating t && decide (t.stage.site ≤ 1) then
    gatesChanged handOver s (channels.foldl requestReopen t)
  else t

/-- The waiting drive of channel `c` comes on once its dead time has passed (R129). -/
def driveComesOn (c : Fin 2) (s : State) : State :=
  let g := s.gate c
  match g.state, g.drive with
  | .closing, none => putGate c (startDrive .close s g) s
  | .opening, none => putGate c (startDrive .open_ s g) s
  | _, _ => s

/-- The travel limit of channel `c`, in microseconds (R140). -/
def travelLimit (s : State) (c : Fin 2) : Nat := secs (s.settings.gate.get c).travelLimit

/-- The travel used has reached the travel limit with a drive on (R140). -/
def travelOver (c : Fin 2) (s : State) : Bool :=
  operating s && (s.gate c).drive.isSome && decide (travelLimit s c ≤ travelUsed s (s.gate c))

/-- The travel timeout (R140). -/
def travelFails (c : Fin 2) (s : State) : State :=
  gatesChanged handOver s (enterFault .travel c s)

/-! ## Clearing (R143) -/

/-- The state a cleared channel takes from its limits (R143). -/
def clearedState (openActive closedActive : Bool) : GateState :=
  match openActive, closedActive with
  | true, false => .opened
  | false, true => .closed
  | false, false => .unknown
  | true, true => .fault

/-- Channel `c` in FAULT is cleared (R143). -/
def clearChannel (s : State) (c : Fin 2) : State :=
  if (s.gate c).state = .fault then
    let st := clearedState (limitActive s c .openLimit) (limitActive s c .closedLimit)
    putGate c { dropDrive s.now (s.gate c) with
      state := st
      used := 0
      direction := none
      driftAt := none
      cause := if st = .fault then some .limitConflict else none } s
  else s

/-- The panel reset key has become ACTIVE: trouble counts and gate faults are cleared (R60, R143). -/
def panelReset (s : State) : State :=
  let t := { s with inputs := { s.inputs with panelResetKey := s.inputs.panelResetKey.take } }
  if operating t then
    gatesChanged handOver s (channels.foldl clearChannel
      { t with pumps := { t.pumps with pump := t.pumps.pump.map panelClear } })
  else t

/-- CLEAR GATE FAULT on a fitted channel (R143). -/
def clearGateFault (c : Fin 2) (s : State) : State × Result :=
  if !operating s || decide ((s.gate c).state ≠ .fault) then (s, .wrongState)
  else (gatesChanged handOver s (clearChannel s c), .done)

/-- REOPEN FLOOD GATE on a flood gate (R137). -/
def reopenFloodGate (c : Fin 2) (s : State) : State × Result :=
  if !operating s || decide (2 ≤ s.stage.site) ||
      !(decide ((s.gate c).state = .closed) || decide ((s.gate c).state = .unknown)) then
    (s, .wrongState)
  else (gatesChanged handOver s (putGate c { s.gate c with reopen := true } s), .done)

end Sys2Proof.Machine
end

