-- ==== Sys2Proof/Machine/SupplyOps.lean ====
section
/-! DEFINITION. The supply block's own events: the budget (R110), the own intent (R113 to R118), starts
without the line (R119), and the shed timers and calls (R120 to R123). -/

namespace Sys2Proof.Machine

/-- The new state of the supply-mode input is received: a report falls due, and in normal operation B and so H
change (R85, R110, R111). -/
def supplyModeTaken (s : State) : State :=
  let t := { s with inputs := { s.inputs with supplyMode := s.inputs.supplyMode.take } }
  handOver (reportDue t)

/-! ## The own intent (R113 to R118) -/

/-- S has passed since the last own intent, with none in being (R113). -/
def intentSpaced (s : State) : Bool :=
  operating s && decide (s.supply.intent = .none) && lastedFor s.supply.lastIntent (spacing s) s

/-- The intent window (R115). -/
def windowTime : Nat := millis 400

/-- The largest urgency (R103, R116). -/
def maxUrgency : Nat := 4

/-- A rival has precedence over the own intent of station `number` (R116). -/
def precedes (r : Rival) (number : Nat) (i : Intent) : Bool :=
  decide (i.urgency < r.urgency) || (decide (r.urgency = i.urgency) && decide (r.sender < number))

/-- The own entry leaves the reservation list (R105). -/
def dropOwnReservation (s : State) : State :=
  { s with peers := { s.peers with
      reservations := s.peers.reservations.filter fun r => decide (r.sender ≠ s.startup.number) } }

/-- The own intent yields to a peer's in its window (R116). -/
def yieldIntent (s : State) : State :=
  let t := dropOwnReservation s
  { t with supply := { t.supply with
      intent := .none, deferrals := saturate count16 t.supply.deferrals 1 } }

/-- A peer's intent is judged against the own intent in its window (R116). -/
def judgeRival (s : State) (r : Rival) : State :=
  match s.supply.intent with
  | .window i _ => if precedes r s.startup.number i then yieldIntent s else s
  | _ => s

/-- The supply block hears a peer's intent (R114, R116). -/
def heardIntent (r : Rival) (s : State) : State :=
  if !operating s then s
  else
    match s.supply.intent with
    | .none => s
    | .queued i heard =>
      withdrawIntent { s with supply := { s.supply with intent := .queued i (heard ++ [r]) } }
    | .window _ _ => judgeRival s r

/-- The own entry joins the reservation list or replaces the one held (R105). -/
def joinOwnReservation (i : Intent) (s : State) : State :=
  let t := dropOwnReservation s
  { t with peers := { t.peers with reservations := t.peers.reservations ++
      [⟨s.startup.number, i.pump.val, i.inrush, i.urgency, s.now⟩] } }

/-- The own intent is SENT: its window opens, and the intents heard meanwhile are judged; with the
budget mode no longer peer the window is abandoned at once (R114, R115, R118). -/
def intentSent (s : State) : State :=
  match s.supply.intent with
  | .queued i heard =>
    let t := joinOwnReservation i s
    let t := { t with supply := { t.supply with
      intent := if s.supply.mode = .peer then .window i (s.now + windowTime) else .none
      lastIntent := some s.now } }
    heard.foldl judgeRival t
  | _ => s

/-- The intent whose window has run out. -/
def windowOver (s : State) : Option Intent :=
  match s.supply.intent with
  | .window i u => if operating s && decide (u ≤ s.now) then some i else none
  | _ => none

/-- The window ends: a start grant when H covers the start (R117). -/
def windowEnds (i : Intent) (s : State) : State :=
  let t := { s with supply := { s.supply with intent := .none } }
  if coversStart t then grantStart handOver i.pump t else t

/-! ## Starts without the line (R119) -/

/-- The entry wait has run out. -/
def entryWaitOver (s : State) : Bool := operating s && ranOut s.supply.entryWait s

/-- The end of the entry wait (R119). -/
def entryWaitEnds (s : State) : State :=
  tryIsland handOver { s with supply := { s.supply with entryWait := none } }

/-- S has passed since the last own start, in island mode (R119). -/
def startSpaced (s : State) : Bool :=
  operating s && decide (s.supply.mode = .island) && lastedFor s.supply.lastStart (spacing s) s

/-! ## Shedding (R120 to R123) -/

/-- The own-shortfall timer runs out: it starts again and the offset rises (R120). -/
def shortfallEnds (s : State) : State :=
  raiseOffset handOver { s with supply := { s.supply with
    shortfallUntil := some (s.now + shortfallInterval) } }

/-- The shed-call timer runs out: a short event, or the timer becomes absent (R121). -/
def shedCallEnds (s : State) : State :=
  if short s then shortEvent handOver s
  else { s with supply := { s.supply with shedCallUntil := none } }

/-- The restore timer runs out: the offset falls by 20 (R123). -/
def restoreEnds (s : State) : State :=
  startRestore (setOffset handOver (s.supply.shedOffset - shedStep)
    { s with supply := { s.supply with restoreUntil := none } })

/-- The supply block hears a peer's SHED CALL (R122, R126). -/
def heardShedCall (c : HeardCall) (s : State) : State :=
  if !operating s then s
  else
    let t := restartRestore { s with supply := { s.supply with lastShed := some c } }
    if canShed t then raiseOffset handOver t else t

end Sys2Proof.Machine
end

