-- ==== Sys2Proof/Machine/PeerOps.lean ====
section
/-! DEFINITION. The peer view: the table (R93 to R98), the own-number list (R102), the reservation list
(R103 to R106), and what each peer frame hands on (R99, R100). -/

namespace Sys2Proof.Machine

/-! ## The peer table (R93 to R97) -/

/-- The highest stage (R96). -/
def maxStage : Nat := 4

/-- A new entry (R94). -/
def newPeer (now : Nat) (f : Frame) : Peer where
  station := f.sender
  lastFrame := now
  stale := false
  sequence := f.sequence
  gaps := 0
  stage := none
  claim := none
  fallback := false
  report := none

/-- The frames missed between the last sequence number and this one (R95). -/
def missed (last this : Byte) : Nat := (this - last - 1).toNat

/-- The common update of an entry that is present (R94, R95). -/
def refreshPeer (now : Nat) (f : Frame) (e : Peer) : Peer :=
  { e with
    lastFrame := now
    stale := false
    sequence := f.sequence
    gaps := saturate count16 e.gaps (missed e.sequence f.sequence) }

/-- Bit `i` of a number. -/
def bitOf (n i : Nat) : Bool := decide (n / 2 ^ i % 2 = 1)

/-- What a STATUS REPORT adds to the entry (R96, R183); the bits that R183 does not name are not read
(R182). -/
def addReport (p : List Byte) (e : Peer) : Peer :=
  let flags := byteAt p 9
  { e with
    stage := some (min maxStage (byteAt p 0))
    claim := if bitOf flags 3 then e.claim else some (wordAt p 2)
    fallback := bitOf flags 1
    report := some ⟨byteAt p 1, byteAt p 4, bitOf flags 0, BitVec.ofNat 12 (wordAt p 10)⟩ }

/-- What the kind of a frame adds to the entry (R96, R97). -/
def addKind (f : Frame) (e : Peer) : Peer :=
  match f.kind with
  | 1 => addReport f.payload e
  | 3 => { e with stage := some (min maxStage (byteAt f.payload 0)) }
  | _ => e

/-- The entry after the frame. -/
def nextPeer (s : State) (f : Frame) : Peer :=
  match peerEntry s f.sender with
  | none => addKind f (newPeer s.now f)
  | some e => addKind f (refreshPeer s.now f e)

/-- The frames this frame shows to have been missed (R95). -/
def gapsShown (s : State) (f : Frame) : Nat :=
  match peerEntry s f.sender with
  | none => 0
  | some e => missed e.sequence f.sequence

/-- An entry takes its place in the table, which is kept by rising station number. -/
def putPeer (e : Peer) : List Peer → List Peer
  | [] => [e]
  | p :: ps =>
    if e.station < p.station then e :: p :: ps
    else if e.station = p.station then e :: ps
    else p :: putPeer e ps

/-! ## The reservation list (R103, R104) -/

/-- The reservation that a START INTENT makes (R103, R183). R103 takes the pump index "as the intent
carried it", 0 to 3, and clamps only the urgency: that an index byte above 3 is kept as it came is
the model's DESIGN CHOICE (log entry 43). -/
def reservationFrom (now : Nat) (f : Frame) : Reservation :=
  ⟨f.sender, byteAt f.payload 0, wordAt f.payload 1, min maxUrgency (byteAt f.payload 3), now⟩

/-- The entry joins the tail, after an older entry of its sender has left (R104). -/
def enterReservation (r : Reservation) (l : List Reservation) : List Reservation :=
  l.filter (fun x => decide (x.sender ≠ r.sender)) ++ [r]

/-! ## A peer frame (R74, R94, R99, R100) -/

/-- The peer view after a peer frame: its entry, the gap count, and for a START INTENT the reservation
list (R94 to R97, R104). -/
def peerView (f : Frame) (s : State) : State :=
  let t := countGaps (gapsShown s f) s
  { t with peers := { t.peers with
      table := putPeer (nextPeer s f) t.peers.table
      reservations :=
        if f.kind = 2 then enterReservation (reservationFrom s.now f) t.peers.reservations
        else t.peers.reservations } }

/-- The island timer returns to 0, and ISLAND ends (R88). -/
def restartIsland (s : State) : State :=
  refreshMode { s with line := { s.line with islandFrom := some s.now, island := false } }

/-- The stage held for a station. -/
def stageHeld (s : State) (n : Nat) : Option Nat := (peerEntry s n).bind (·.stage)

/-- The claim sum or the reservations of others, as they enter H, have changed: H is recomputed in peer
and none modes (R100, R111). -/
def claimsChanged (s : State) : State := if s.supply.mode = .island then s else handOver s

/-- What the kind of a peer frame hands to the supply block (R100). -/
def handKind (f : Frame) (s : State) : State :=
  match f.kind with
  | 2 => heardIntent ⟨f.sender, min maxUrgency (byteAt f.payload 3)⟩ s
  | 4 => heardShedCall ⟨f.sender, wordAt f.payload 0, byteAt f.payload 2⟩ s
  | _ => s

/-- A good peer frame (R74, R94 to R100): the peer view is brought up to date, the island timer
restarts, M and H are recomputed on what changed, and intents and shed calls are handed on. R100 hands on
'a change of the claim sum', in which an absent claim counts as 0, and then says that the sum changes
when a report sets a claim where none was and when an entry holding a claim is removed; that a first
claim of 0, which leaves the sum as it was, hands nothing on, while the removal of a held claim of 0
hands the sum on (`removePeer`), is the model's DESIGN CHOICE (log entry 59). -/
def peerFrame (f : Frame) (s : State) : State :=
  let t := peerView f s
  let u := restartIsland t
  let u := if stageHeld s f.sender = stageHeld t f.sender then u else recomputeM u
  let u := if claimSum s ≠ claimSum t ∨ f.kind = 2 then claimsChanged u else u
  handKind f u

/-! ## Aging (R98, R102, R106) -/

/-- The age at which an entry becomes STALE (R98). -/
def staleTime : Nat := secs 6
/-- The age at which an entry is removed (R98). -/
def removalTime : Nat := secs 20
/-- How long a time stays in the own-number list (R102). -/
def ownNumberTime : Nat := secs 20

/-- The entry for a station exists and its last frame lies at least `d` back. -/
def peerAged (n d : Nat) (s : State) : Bool :=
  match peerEntry s n with
  | some e => lineRuns s && decide (e.lastFrame + d ≤ s.now)
  | none => false

/-- The entry becomes STALE (R98). -/
def becomeStale (n : Nat) (s : State) : State :=
  { s with peers := { s.peers with
      table := s.peers.table.map fun e => if e.station = n then { e with stale := true } else e } }

/-- The entry leaves the table with all it held, and M is recomputed (R28, R98 to R100). That the removal of
a claim of 0 is handed on is the model's DESIGN CHOICE (log entry 59). -/
def removePeer (n : Nat) (s : State) : State :=
  let t := { s with peers := { s.peers with
      table := s.peers.table.filter fun e => decide (e.station ≠ n) } }
  let u := recomputeM t
  if ((peerEntry s n).bind (·.claim)).isSome then claimsChanged u else u

/-- The reservation of a sender has stood for S (R106). -/
def reservationAged (n : Nat) (s : State) : Bool :=
  match reservationOf s n with
  | some r => lineRuns s && decide (r.arrival + spacing s ≤ s.now)
  | none => false

/-- The reservation leaves the list; another sender's changes H, and an empty list frees the slot
(R106, R111, R113). -/
def expireReservation (n : Nat) (s : State) : State :=
  let t := { s with peers := { s.peers with
      reservations := s.peers.reservations.filter fun r => decide (r.sender ≠ n) } }
  let u := if n = s.startup.number then t else claimsChanged t
  if u.peers.reservations = [] then tryIntent u else u

/-- The oldest time of the own-number list is 20 s old (R102). -/
def ownNumberAged (s : State) : Bool :=
  match s.peers.ownNumber with
  | t :: _ => lineRuns s && decide (t + ownNumberTime ≤ s.now)
  | [] => false

/-- The oldest time leaves the own-number list (R102). -/
def dropOwnNumber (s : State) : State :=
  { s with peers := { s.peers with ownNumber := s.peers.ownNumber.drop 1 } }

end Sys2Proof.Machine
end

