-- ==== Sys2Proof/Machine/LineOps.lean ====
section
/-! DEFINITION. The line controller's events: the receiver (R70 to R72), attempts and their ends (R76 to R80,
R84), the line states (R80, R81, R87 to R89) and the report schedule (R85). -/

namespace Sys2Proof.Machine

/-! ## The receiver (R70 to R72) -/

/-- The bit times of one byte (R70). -/
def byteBits : Nat := 10
/-- The idle bit times that end a partial frame (R72). -/
def gapBits : Nat := 4

/-- `n` bit times, in microseconds. -/
def bits (n : Nat) : Nat := n * bitTime

/-- The idle count at the moment `at_`, in microseconds: no more than the line has been idle as RXD
shows it, a start bit or a disturbance under way having returned it to 0, and no more than has passed
since the last byte, frame or attempt ended or the last disturbance's low came (R70; log entry 7). -/
def idleCount (idle at_ : Nat) (s : State) : Nat := min idle (at_ - s.line.idleFrom)

/-- The receiver takes another state. -/
def setReceiver (r : Receiver) (s : State) : State := { s with line := { s.line with receiver := r } }

/-- The idle count returns to 0 at this moment (R70). -/
def restartIdle (s : State) : State := { s with line := { s.line with idleFrom := s.now } }

/-- The bytes collected show a length over 40 (R72). -/
def lengthOver (bytes : List Byte) : Bool :=
  decide (4 ≤ bytes.length) && decide (maxPayload < byteAt bytes 3)

/-- The partial frame is spoilt: a framing error, or a length over 40 (R72). -/
def partialSpoilt (r : Receiver) : Bool :=
  match r with
  | .hunting => false
  | .assembling bytes err => err || lengthOver bytes

/-- The receiver holds a complete frame that has not been judged yet. -/
def frameHeld (r : Receiver) : Option (List Byte) :=
  match r with
  | .hunting => none
  | .assembling bytes err =>
    if !err && !lengthOver bytes && frameComplete bytes then some bytes else none

/-- A partial frame is being assembled, and the idle count at the moment `at_` has passed 4 bit times
(R72). -/
def gapPassed (idle at_ : Nat) (s : State) : Bool :=
  match s.line.receiver with
  | .hunting => false
  | .assembling _ _ =>
    (frameHeld s.line.receiver).isNone && decide (bits gapBits < idleCount idle at_ s)

/-- A partial frame is discarded as broken, and the receiver hunts again (R72, R90). -/
def discardPartial (s : State) : State := setReceiver .hunting (countBroken s)

/-- The receiver after one more byte (R72). -/
def Receiver.next (r : Receiver) (b : Byte) (err : Bool) : Receiver :=
  match r with
  | .hunting => if b = delimiter ∧ err = false then .assembling [] false else .hunting
  | .assembling bytes _ => .assembling (bytes ++ [b]) err

/-- The value of a byte as RXD showed its ten bits: bits 1 to 8, the least significant first (R70). -/
def byteOf (levels : BitVec 10) : Byte := levels.extractLsb' 1 8

/-- The stop bit reads low: a framing error (R70). -/
def framingError (levels : BitVec 10) : Bool := !levels.getLsbD 9

/-- The start bit reads high at its middle: a disturbance, and no byte begins (R70). -/
def disturbance (levels : BitVec 10) : Bool := levels.getLsbD 0

/-- A partial frame spoilt, or passed by before a low that began ten bit times ago, is discarded, the idle
count having stood at `idle` when that low came (R72). -/
def dropPassed (idle : Nat) (s : State) : State :=
  if partialSpoilt s.line.receiver || gapPassed idle (s.now - bits byteBits) s then discardPartial s
  else s

/-- The line went high again no more than `ago` microseconds before this moment, so that the idle count
is no more than that. -/
def idleSince (ago : Nat) (s : State) : State :=
  { s with line := { s.line with idleFrom := max s.line.idleFrom (s.now - ago) } }

/-- Half a bit time: a bit is judged at its middle (R70). -/
def halfBit : Nat := bitTime / 2

/-- How long before this moment, the end of its ten bit times, the line can first have been idle again:
at a disturbance from the low on, which lasted less than half a bit; at a framing error from the
middle of the stop bit on, which read low; otherwise from the end of the stop bit. When within the
first two RXD did go high the operand of the next row shows (R70; log entry 7). -/
def idleBefore (levels : BitVec 10) : Nat :=
  if disturbance levels then bits byteBits else if framingError levels then halfBit else 0

/-- The ten bit times of a byte or a disturbance have passed since its low, the idle count having stood
at `idle` when the low came: a partial frame spoilt or passed by before it is discarded first. A
disturbance begins no byte; either way the idle count has begun anew (R70, R72). -/
def receiveByte (idle : Nat) (levels : BitVec 10) (s : State) : State :=
  let t := dropPassed idle s
  idleSince (idleBefore levels)
    (if disturbance levels then t
    else setReceiver (t.line.receiver.next (byteOf levels) (framingError levels)) t)

/-- A byte is received now: the line controller runs, the station is not sending, and no complete frame
waits to be judged. -/
def receiving (s : State) : Bool :=
  lineRuns s && s.line.sending.isNone && (frameHeld s.line.receiver).isNone

/-- A partial frame is to be discarded at this moment (R72). -/
def discardDue (idle : Nat) (s : State) : Bool :=
  lineRuns s && s.line.sending.isNone && (partialSpoilt s.line.receiver || gapPassed idle s.now s)

/-! ## Attempts (R76 to R79) -/

/-- The quiet interval of a class at station n, in bit times (R76). -/
def quietInterval (class_ n : Nat) : Nat :=
  match class_ with
  | 1 => 10 + n
  | 2 => 30 + n
  | _ => 50 + 2 * n

/-- The interval the head waits: a later attempt waits 8n more (R78). -/
def waitFor (s : State) (e : Entry) : Nat :=
  quietInterval e.kind.class s.startup.number + if 0 < e.attempts then 8 * s.startup.number else 0

/-- The entry whose attempt may begin now, the idle count having reached its interval (R76). -/
def attemptReady (idle : Nat) (s : State) : Option Entry :=
  if lineRuns s && decide (s.line.state = .onLine) && !windowRuns s && s.line.sending.isNone &&
      (frameHeld s.line.receiver).isNone then
    match headEntry s with
    | some e => if bits (waitFor s e) ≤ idleCount idle s.now s then some e else none
    | none => none
  else none

/-- The entry as its attempt begins: the first one takes the own sequence number, and a marker its
payload (R79, R86). -/
def beginEntry (s : State) (e : Entry) : Entry :=
  { e with
    attempts := e.attempts + 1
    sequence := some (e.sequence.getD s.line.sequence)
    payload := if e.kind = .statusReport ∧ e.sequence = none then reportPayload s else e.payload
    onLine := true }

/-- The bytes of an entry's frame (R71). -/
def entryFrame (s : State) (e : Entry) : List Byte :=
  wireFrame e.kind.number s.startup.number e.kind.target (e.sequence.getD 0) e.payload

/-- The start time of a report is the moment its first attempt begins (R85). -/
def noteReport (e : Entry) (s : State) : State :=
  if e.kind = .statusReport ∧ e.sequence = none then
    { s with line := { s.line with lastReportStart := some s.now, periodicAt := none } }
  else s

/-- An attempt of the head begins (R76, R79, R86). A partial frame is lost by the gap rule first. -/
def beginAttempt (e : Entry) (s : State) : State :=
  let e' := beginEntry s e
  let t := match s.line.receiver with
    | .hunting => s
    | .assembling _ _ => discardPartial s
  let t := noteReport e (changeEntry e.order (beginEntry s) t)
  { t with line := { t.line with sending := some (entryFrame s e'), sendingFrom := s.now } }

/-- The entry whose attempt is on the line. -/
def onLineEntry (s : State) : Option Entry :=
  if lineRuns s && s.line.sending.isSome then (entries s).find? (·.onLine) else none

/-- The attempt whose every bit has been sent: ten bit times for each byte (R70, R77). -/
def attemptDone (s : State) : Option Entry :=
  match s.line.sending with
  | some bytes =>
    if s.line.sendingFrom + bits (byteBits * bytes.length) ≤ s.now then onLineEntry s else none
  | none => none

/-- The attempt that sends a bit of this level now: a collision is found at a high bit, a driver that
does not reach the line at a low one (R77). -/
def attemptAt (level : Bool) (s : State) : Option Entry :=
  if sentLevel s = some level then onLineEntry s else none

/-- The own bytes that are whole on the line at this moment (R70). -/
def wholeBytes (s : State) : Nat := bitsSent s / byteBits

/-- The receiver goes on from the own bytes that were whole on the line (R77). -/
def receiverAfter (sent : Option (List Byte)) (wholeBytes : Nat) : Receiver :=
  match wholeBytes with
  | 0 => .hunting
  | n + 1 => .assembling (((sent.getD []).drop 1).take n) false

/-- The attempt on the line has ended without success: DEN is released, the receiver goes on, and the
idle count restarts (R77, R80). -/
def abortAttempt (s : State) : State :=
  restartIdle (releaseLine (setReceiver (receiverAfter s.line.sending (wholeBytes s)) s))

/-- A held withdrawal is taken at the end of the attempt: the intent leaves the queue and its state
returns to NONE (R84, R114). That R113 does not try its conditions at this return, which its list of
events does not name, is the model's DESIGN CHOICE (log entry 56). -/
def takeWithdrawal (e : Entry) (s : State) : State :=
  let t := dequeue e.order s
  { t with supply := { t.supply with intent := .none } }

/-- The most attempts of a frame (R78). -/
def maxAttempts : Nat := 8

/-- The entry after a failed attempt. -/
def offLine (e : Entry) : Entry := { e with onLine := false }

/-- An attempt has collided (R77, R78, R84). -/
def collide (e : Entry) (s : State) : State :=
  let t := abortAttempt (countCollision s)
  if maxAttempts ≤ e.attempts then notSent e.kind e.tag (dropEntry e (countSendFailure t))
  else if e.withdraw then takeWithdrawal e t
  else changeEntry e.order offLine t

/-- The placing block is told SENT (R84). -/
def sentTold (e : Entry) (s : State) : State :=
  match e.kind with
  | .startIntent => intentSent s
  | .stationAnswer => answerEnded e.tag s
  | _ => s

/-- A frame has been sent: the own sequence number rises, the entry leaves the queue and the placing
block is told (R77, R79, R84). -/
def sendDone (e : Entry) (s : State) : State :=
  let t := restartIdle (releaseLine (setReceiver .hunting s))
  let t := { t with line := { t.line with sequence := t.line.sequence + 1 } }
  sentTold e (dropEntry e t)

/-! ## The line states (R80, R81, R87 to R89) -/

/-- The island time (R88). -/
def islandTime : Nat := secs 20

/-- The line state becomes ON-LINE, in ISLAND where the island timer stands at 20 s or more (R88). -/
def enterOnLine (s : State) : State :=
  { s with line := { s.line with
      state := .onLine, island := lastedFor s.line.islandFrom islandTime s } }

/-- The probe time (R80). -/
def probeTime : Nat := secs 5

/-- The bit times past which a low line is stuck (R80). -/
def stuckBits : Nat := 30

/-- A line fault is found now: in LISTEN or ON-LINE, a low read high while the station sends a low bit,
or the line low for more than 30 bit times (R80). -/
def lineFaultFound (sign : LineFaultSign) (lowFor : Nat) (s : State) : Bool :=
  lineRuns s && (decide (s.line.state = .listen) || decide (s.line.state = .onLine)) &&
    match sign with
    | .lowReadHigh => (attemptAt false s).isSome
    | .stuckLow => decide (bits stuckBits < lowFor)

/-- The attempt on the line is ended by a line fault: it does not count, and a held withdrawal is
taken (R78, R80, R84). R80 loses a frame "being received"; that the own bytes which were whole on
the line stand in the receiver as one, and are lost and counted broken as one, is the model's
DESIGN CHOICE (log entry 42). -/
def faultAttempt (s : State) : State :=
  match onLineEntry s with
  | none => s
  | some e =>
    let t := abortAttempt s
    if e.withdraw then takeWithdrawal e t
    else changeEntry e.order (fun x => { offLine x with attempts := x.attempts - 1 }) t

/-- The line state becomes LINE-FAULT (R80, R111, R121). -/
def enterLineFault (s : State) : State :=
  let t := releaseLine (withdrawShedCalls (faultAttempt s))
  refreshMode { t with line := { t.line with
    state := .lineFault, island := false, probeUntil := some (t.now + probeTime) } }

/-- The bit times the line must have been high (R81). -/
def probeBits : Nat := 100

/-- The probe timer has run out in LINE-FAULT. -/
def probeOver (s : State) : Bool :=
  lineRuns s && decide (s.line.state = .lineFault) && ranOut s.line.probeUntil s

/-- The idle count stands at no more than the line has been idle (R70). -/
def idleAtMost (idle : Nat) (s : State) : State :=
  { s with line := { s.line with idleFrom := s.now - idleCount idle s.now s } }

/-- The probe: LINE-FAULT is left when the idle count stands at 100 bit times or more, otherwise the
probe timer starts again (R81). -/
def probe (idle : Nat) (s : State) : State :=
  if bits probeBits ≤ idleCount idle s.now s then
    let t := idleAtMost idle { s with line := { s.line with probeUntil := none } }
    refreshMode (if windowRuns t then { t with line := { t.line with state := .listen } }
      else enterOnLine t)
  else { s with line := { s.line with probeUntil := some (s.now + probeTime) } }

/-- The LISTEN window's 2.5 s (R87). -/
def windowLength : Nat := millis 2500

/-- The window has run its time. -/
def windowRanOut (s : State) : Bool :=
  match s.line.window with
  | .opened u => lineRuns s && decide (u ≤ s.now)
  | _ => false

/-- The pumps that a LISTEN window held in RETRY-WAIT make their next attempts at its end (R54, R87). That
several are taken by rising index, each handed on before the next, is the model's DESIGN CHOICE (log
entry 20). -/
def releaseRetries (s : State) : State :=
  if operating s then pumpIndices.foldl leaveRetry s else s

/-- The window ends: LISTEN becomes ON-LINE, a report falls due, and the pumps whose retry pause ended
inside it make their next attempts (R54, R85, R87, R111; log entry 20). -/
def windowCloses (s : State) : State :=
  let t := { s with line := { s.line with window := .closed } }
  releaseRetries (refreshMode (reportDue (if t.line.state = .listen then enterOnLine t else t)))

/-- ISLAND begins now: ON-LINE with the island timer at 20 s (R88). -/
def islandDue (s : State) : Bool :=
  lineRuns s && decide (s.line.state = .onLine) && !s.line.island &&
    lastedFor s.line.islandFrom islandTime s

/-- ISLAND begins and is handed to the supply block (R88). -/
def islandBegins (s : State) : State :=
  refreshMode { s with line := { s.line with island := true } }

/-- The CLASH time (R89). -/
def clashTime : Nat := secs 60

/-- A frame in the queue is removed on entry to CLASH and its placing block told NOT SENT (R84,
R89). -/
def clashRemoves (s : State) (e : Entry) : State := notSent e.kind e.tag s

/-- When the next periodic report falls due once the report entry is removed without having ended
(R85, R89). -/
def periodicAfterClash (s : State) : Option Nat :=
  match s.line.report with
  | some e => if e.begun then s.line.lastReportStart.map (· + reportPeriod) else s.line.periodicAt
  | none => s.line.periodicAt

/-- The line state becomes CLASH, which closes a LISTEN window still running (R54, R89). -/
def enterClash (s : State) : State :=
  let t := s.line.queue.foldl clashRemoves (countQueueDrops s.line.queue.length s)
  let t := { t with line := { t.line with
    state := .clash
    island := false
    window := .closed
    periodicAt := periodicAfterClash s
    report := none
    queue := []
    changePending := false
    probeUntil := none
    clashUntil := some (s.now + clashTime)
    sending := none } }
  releaseRetries (refreshMode t)

/-- The CLASH timer has run out. -/
def clashOver (s : State) : Bool :=
  lineRuns s && decide (s.line.state = .clash) && ranOut s.line.clashUntil s

/-- CLASH ends: a new LISTEN window opens (R87, R89). -/
def clashEnds (s : State) : State :=
  refreshMode { s with line := { s.line with
    state := .listen, window := .opened (s.now + windowLength), clashUntil := none } }

/-- A good frame bearing the own number is counted; its time joins the own-number list, or the clash
condition is met (R74, R89, R102). -/
def ownNumberFrame (s : State) : State :=
  let t := countOwnNumber s
  if t.line.state = .clash then t
  else if t.peers.ownNumber = [] then
    { t with peers := { t.peers with ownNumber := [t.now] } }
  else enterClash { t with peers := { t.peers with ownNumber := [] } }

/-! ## The report schedule (R85) -/

/-- 2.0 s have passed since the start of the last report. -/
def periodicOver (s : State) : Bool := lineRuns s && ranOut s.line.periodicAt s

/-- A periodic report falls due (R85). -/
def periodicDue (s : State) : State :=
  reportDue { s with line := { s.line with periodicAt := none } }

end Sys2Proof.Machine
end

