-- ==== Sys2Proof/Machine/ToolOps.lean ====
section
/-! DEFINITION. The tool responder: the judgement of queries and orders (R167 to R171), the configuration
write on the memory port (R172, R173), and the restart (R174). -/

namespace Sys2Proof.Machine

/-! ## Record and order kinds (R184) -/

/-- Record kinds, by their codes. -/
inductive RecordKind where
  | summary
  | pump
  | gate
  | lighting
  | peer
  | counters
  | measurement
  | chunk
  deriving DecidableEq, Repr

/-- The record kind of a code (R184). -/
def recordKindOf (code : Nat) : Option RecordKind :=
  match code with
  | 1 => some .summary
  | 2 => some .pump
  | 3 => some .gate
  | 4 => some .lighting
  | 5 => some .peer
  | 6 => some .counters
  | 7 => some .measurement
  | 8 => some .chunk
  | _ => none

/-- Order kinds, by their codes. -/
inductive OrderKind where
  | clearLockout
  | clearPumpRecord
  | clearGateFault
  | reopenFloodGate
  | clearCounters
  | configWrite
  | restart
  deriving DecidableEq, Repr

/-- The order kind of a code (R184). -/
def orderKindOf (code : Nat) : Option OrderKind :=
  match code with
  | 1 => some .clearLockout
  | 2 => some .clearPumpRecord
  | 3 => some .clearGateFault
  | 4 => some .reopenFloodGate
  | 5 => some .clearCounters
  | 6 => some .configWrite
  | 7 => some .restart
  | _ => none

/-! ## Queries (R169, R170) -/

/-- The result of a query and, with DONE, its record. -/
abbrev Answer : Type := Result × List Byte

/-- The pump record query (R66, R169). -/
def queryPump (s : State) (index : Nat) : Answer :=
  if h : index < 4 then
    if (s.pump ⟨index, h⟩).state = .notFitted then (.notFitted, [])
    else (.done, pumpRecord s ⟨index, h⟩)
  else (.range, [])

/-- The gate record query (R145, R169). -/
def queryGate (s : State) (index : Nat) : Answer :=
  if h : index < 2 then
    if gateKind s ⟨index, h⟩ = .none then (.notFitted, [])
    else (.done, gateRecord s ⟨index, h⟩)
  else (.range, [])

/-- The peer view query (R107, R170). -/
def queryPeer (s : State) (index : Nat) : Answer :=
  if 1 ≤ index ∧ index ≤ 14 then (.done, peerRecord s index) else (.range, [])

/-- The configuration chunk query (R170). -/
def queryChunk (s : State) (index : Nat) : Answer :=
  if index % chunkSize ≠ 0 ∨ imageSize ≤ index then (.range, [])
  else if s.startup.imageStatus = some .absent then (.wrongState, [])
  else (.done, chunkRecord s index)

/-- The judgement of a query (R169, R170). -/
def judgeQuery (s : State) (code index : Nat) : Answer :=
  match recordKindOf code with
  | none => (.unknown, [])
  | some .summary => (.done, summaryRecord s)
  | some .pump => queryPump s index
  | some .gate => queryGate s index
  | some .lighting => (.done, lightingRecord s)
  | some .peer => queryPeer s index
  | some .counters => (.done, countersRecord s.line.counters)
  | some .measurement => (.done, measurementRecord s)
  | some .chunk => queryChunk s index

/-- A query of this station is answered (R167, R168). -/
def answerQuery (f : Frame) (s : State) : State :=
  let code := f.payload.getD 0 0
  let index := f.payload.getD 1 0
  let a := judgeQuery s code.toNat index.toNat
  placeFrame .stationAnswer (answerPayload f.sequence false code index a.1 a.2) .plain s

/-! ## The configuration write (R172, R173) -/

/-- The memory's write-enable command (R173). -/
def writeEnable : Byte := 0x06
/-- The memory's write command (R173). -/
def writeCommand : Byte := 0x02
/-- The memory's read-status command (R173). -/
def readStatus : Byte := 0x05
/-- The memory's read command (R173). -/
def readCommand : Byte := 0x03

/-- The data lie in one aligned 32-byte block from the offset on (R172, R182). -/
def writeInRange (offset : Nat) (data : List Byte) : Bool :=
  decide (1 ≤ data.length) && decide (offset % chunkSize + data.length ≤ chunkSize)

/-- The judgement of a CONFIG WRITE; `none` is accepted (R172). -/
def judgeWrite (s : State) (offset : Nat) (data : List Byte) (lockPin : Bool) : Option Result :=
  if !writeInRange offset data then some .range
  else if lockPin then some .locked
  else if s.tool.write.isSome then some .busy
  else if s.tool.restart.isSome then some .wrongState
  else none

/-- An accepted write fills the slot and begins on the memory port: write enable, then the write
command with address and data (R172, R173). -/
def acceptWrite (sequence offset : Byte) (data : List Byte) (s : State) : State :=
  { s with tool := { s.tool with
      write := some ⟨offset.toNat, data, sequence, s.now, .polling⟩
      port := [[writeEnable], writeCommand :: offset :: data] } }

/-- The order kind code of CONFIG WRITE (R184). -/
def configWriteCode : Byte := 6

/-- The write in flight ends with a result: the slot empties and the answer is handed over (R173,
R174). -/
def endWrite (r : Result) (w : Write) (s : State) : State :=
  let tag : AnswerTag :=
    match s.tool.restart with
    | some x => if x.write then .write else .plain
    | none => .plain
  placeFrame .stationAnswer
    (answerPayload w.sequence true configWriteCode (byte8 w.offset) r []) tag
    { s with tool := { s.tool with write := none } }

/-- The time a write has until its status shows it finished (R173). -/
def writeTime : Nat := millis 20

/-- The write whose status is being polled. -/
def pollingWrite (s : State) : Option Write :=
  match s.tool.write with
  | some w => if lineRuns s && decide (w.phase = .polling) then some w else none
  | none => none

/-- The write whose bytes are being read back. -/
def readBackWrite (s : State) : Option Write :=
  match s.tool.write with
  | some w => if lineRuns s && decide (w.phase = .readBack) then some w else none
  | none => none

/-- A read-status poll completes: the bytes are read back once bit 0 reads 0 (R173). -/
def pollStatus (status : Byte) (w : Write) (s : State) : State :=
  if status.getLsbD 0 = false then
    { s with tool := { s.tool with
        write := some { w with phase := .readBack }
        port := [[readStatus], [readCommand, byte8 w.offset]] } }
  else { s with tool := { s.tool with port := [[readStatus]] } }

/-- The read-back ends and is compared (R173). -/
def compareWrite (data : List Byte) (w : Write) (s : State) : State :=
  endWrite (if data = w.data then .done else .failed) w s

/-! ## The restart (R174) -/

/-- The judgement of a RESTART, and the flag it sets (R174). -/
def orderRestart (s : State) : State × Result :=
  if anyMoving s then (s, .wrongState)
  else if s.tool.restart.isSome then (s, .done)
  else
    ({ s with tool := { s.tool with restart := some ⟨true, s.tool.write.isSome⟩ } }, .done)

/-- The tag of the answer to a RESTART: the restart waits for the DONE answer that set its flag. -/
def restartTag (before after : State) : AnswerTag :=
  if before.tool.restart.isNone && after.tool.restart.isSome then .restart else .plain

/-- Nothing is waited for any more (R174). -/
def restartReady (s : State) : Bool :=
  lineRuns s && decide (s.tool.restart = some ⟨false, false⟩)

/-! ## Orders (R169, R171) -/

/-- An order that names a pump: range, fitting, the fallback condition, then pump control's own rule
(R169, R171). -/
def pumpOrder (s : State) (index : Nat) (act : Fin 4 → State → State × Result) : State × Result :=
  if h : index < 4 then
    if (s.pump ⟨index, h⟩).state = .notFitted then (s, .notFitted)
    else if !operating s then (s, .wrongState)
    else act ⟨index, h⟩ s
  else (s, .range)

/-- CLEAR GATE FAULT (R143, R169). -/
def orderClearGate (s : State) (index : Nat) : State × Result :=
  if h : index < 2 then
    if gateKind s ⟨index, h⟩ = .none then (s, .notFitted) else clearGateFault ⟨index, h⟩ s
  else (s, .range)

/-- REOPEN FLOOD GATE (R137, R169). -/
def orderReopen (s : State) (index : Nat) : State × Result :=
  if h : index < 2 then
    if gateKind s ⟨index, h⟩ ≠ .floodgate then (s, .notFitted) else reopenFloodGate ⟨index, h⟩ s
  else (s, .range)

/-- CLEAR COUNTERS (R90, R171). -/
def clearCounters (s : State) : State × Result :=
  (withCounters (fun _ => Counters.reset) s, .done)

/-- An order that is judged, carried out, and answered at once. -/
def carryOut (s : State) (k : OrderKind) (index : Nat) : State × Result :=
  match k with
  | .clearLockout => pumpOrder s index clearLockout
  | .clearPumpRecord => pumpOrder s index clearPumpRecord
  | .clearGateFault => orderClearGate s index
  | .reopenFloodGate => orderReopen s index
  | .clearCounters => clearCounters s
  | .restart => orderRestart s
  | .configWrite => (s, .unknown)

/-- An order to this station is judged, carried out and answered; an accepted configuration write is
answered when it ends (R168, R169, R172). -/
def takeOrder (f : Frame) (lockPin : Bool) (s : State) : State :=
  let code := f.payload.getD 0 0
  let index := f.payload.getD 1 0
  let answer := fun (r : Result) (tag : AnswerTag) (t : State) =>
    placeFrame .stationAnswer (answerPayload f.sequence true code index r []) tag t
  match orderKindOf code.toNat with
  | none => answer .unknown .plain s
  | some .configWrite =>
    let data := f.payload.drop 2
    match judgeWrite s index.toNat data lockPin with
    | some r => answer r .plain s
    | none => acceptWrite f.sequence index data s
  | some k =>
    let a := carryOut s k index.toNat
    answer a.2 (restartTag s a.1) a.1

/-- A good frame from the tool: a query of this station, or an order to it or to every station; any
other is handed nowhere (R74, R167). -/
def toolFrame (f : Frame) (lockPin : Bool) (s : State) : State :=
  if f.kind = toolQueryKind then
    if f.target = s.startup.number then answerQuery f s else s
  else if f.target = s.startup.number ∨ f.target = 0 then takeOrder f lockPin s
  else s

/-! ## Handing on (R73, R74) -/

/-- A good frame is counted and handed on by its sender (R73, R74, R93). -/
def handOn (f : Frame) (lockPin : Bool) (s : State) : State :=
  let t := countGood s
  if f.sender = 15 then toolFrame f lockPin t
  else if f.sender = t.startup.number ∧ strapFault t = false then ownNumberFrame t
  else peerFrame f t

/-- A frame that fails a test is counted (R73). -/
def countBad (v : Verdict) (s : State) : State :=
  match v with
  | .good _ => s
  | .broken => countBroken s
  | .unknownKind => countUnknownKind s
  | .discardedQuery => countDiscarded s

/-- A whole frame with a matching check arrives now: it is judged and handed on or counted (R73,
R74). -/
def takeFrame (f : Frame) (lockPin : Bool) (s : State) : State :=
  match judgeFrame s f with
  | .good g => handOn g lockPin s
  | v => countBad v s

end Sys2Proof.Machine
end

