-- ==== Sys2Proof/Machine/StartOps.lean ====
section
/-! DEFINITION. Reset and start-up (R176 to R178), the clock monitor (R179), the fallback logic (R180), and
the clocks of the signs (R162, R164). -/

namespace Sys2Proof.Machine

/-! ## Reset (R176) -/

/-- The oscillator start time (R176). -/
def oscillatorTime : Nat := millis 20

/-- Every block at its value after reset, with the cause recorded and start-up at its first step. The
model's clock, its waiting commands and its count of free values go on (R176). -/
def resetTo (cause : ResetCause) (s : State) : State :=
  { State.reset with
    now := s.now
    startup := Startup.reset cause (some (s.now + oscillatorTime))
    line := Line.reset s.now
    free := s.free
    pending := s.pending }

/-- The part is held in reset: the same, with start-up not begun (R176). -/
def holdReset (cause : ResetCause) (s : State) : State :=
  { resetTo cause s with mode := .held, startup := Startup.reset cause none }

/-- The cause an event records (R176). -/
def causeOf (e : ResetEvent) : ResetCause :=
  match e with
  | .powerOn => .powerOn
  | .brownOut => .brownOut
  | .resetPin => .resetPin

/-- A reset event: the reset pin holds the part, any other begins start-up, unless the pin holds
already (R176). -/
def takeReset (e : ResetEvent) (s : State) : State :=
  if e = .resetPin ∨ s.mode = .held then holdReset (causeOf e) s else resetTo (causeOf e) s

/-- The reset pin is released: start-up begins (R176). -/
def releaseReset (s : State) : State :=
  { s with
    mode := .oscillator
    startup := { s.startup with oscillatorUntil := some (s.now + oscillatorTime) } }

/-! ## Clock fallback (R179, R180) -/

/-- The sign outputs and the lights as both fallbacks leave them: signs off, duty 200 (R158, R166). -/
def darkSigns (s : State) : State := { s with signs := { s.signs with output := Signs.reset.output } }

/-- Every dimming output stands at duty 200 (R158). -/
def fullLights (s : State) : State := { s with lights := { s.lights with duty := Lights.reset.duty } }

/-- The speed reference of a drive the fallback logic runs (R37). -/
def fallbackReference : Nat := 255

/-- The fallback run on entry to clock fallback: a run in progress goes on, and otherwise one begins
if a contactor is energised or the high float reports WET, with the energised outputs' time taken as
passed (R180). -/
def entryRun (s : State) : Fallback :=
  let on : Four Bool := ⟨contactor s 0, contactor s 1, contactor s 2, contactor s 3⟩
  match s.fallback.run with
  | some _ => s.fallback
  | none =>
    if on.p0 || on.p1 || on.p2 || on.p3 || highWet s then ⟨some s.now, on⟩ else s.fallback

/-- The drives of a channel drop (R179). -/
def dropChannel (s : State) (c : Fin 2) : State := putGate c (dropDrive s.now (s.gate c)) s

/-- The measurement as clock fallback leaves it: the converter stopped, the analog values invalid, the
level LOST. The sampling of the digital inputs goes on every 20 ms from the last one, or from this moment
`now` where the converter had not started (R19; log entry 49). -/
def stopMeasuring (now : Nat) (m : Meas) : Meas :=
  { m.noCodes with
    level := none, source := .lost, levelDue := false
    sampleFrom := some (m.sampleFrom.getD now) }

/-- The line controller stopped, with DEN released (R91, R179). What becomes of a frame half received and
of an attempt on the line R179 leaves open, where it lets every record stand; that the receiver
hunts, the partial frame lost uncounted, and that no entry is marked on the line is the model's
DESIGN CHOICE (log entry 58). -/
def stopLine (l : Line) : Line :=
  { l with
    sending := none
    receiver := .hunting
    report := l.report.map offLine
    queue := l.queue.map offLine }

/-- The station enters clock fallback at this moment: drives and signs drop, the lights and the speed
reference stand full, n_req stands at 0, the clock monitor has found the main clock absent, and every
other record stands as it was (R35, R179). -/
def enterClockFallback (s : State) : State :=
  let run := entryRun s
  let t := fullLights (darkSigns (channels.foldl dropChannel s))
  { t with
    mode := .clockFallback
    fallback := run
    meas := stopMeasuring t.now t.meas
    line := stopLine t.line
    stage := { t.stage with wanted := 0, speedReference := fallbackReference }
    startup := { t.startup with clockMissed := some t.now } }

/-- The modes in which the loss of the main clock is acted on at once: the oscillator start timer's
own end judges the clock in start-up's first step (R176, R179). -/
def clockWatched (s : State) : Bool :=
  match s.mode with
  | .image | .operating | .configFallback | .clockFallback => true
  | .held | .oscillator => false

/-- The clock monitor finds the main clock absent for more than 2 ms: clock fallback, or, in it already,
the 20 ms of the clock's return start again (R179). -/
def loseClock (s : State) : State :=
  if s.mode = .clockFallback then { s with startup := { s.startup with clockMissed := some s.now } }
  else enterClockFallback s

/-- How long the main clock runs without a break before the station resets (R179). -/
def clockRunTime : Nat := millis 20

/-- The main clock can have run for 20 ms without a break since it was last found absent (R179). -/
def clockBack (s : State) : Bool :=
  decide (s.mode = .clockFallback) && lastedFor s.startup.clockMissed clockRunTime s

/-- Output `i`'s time in the run in progress (R180). -/
def outputTime (s : State) (i : Fin 4) : Option Nat :=
  s.fallback.run.map fun t => t + secs (2 * s.startup.number) + secs (5 * i.val)

/-- Output `i`'s time has passed now (R180). -/
def outputDue (i : Fin 4) (s : State) : Bool := inFallback s && ranOut (outputTime s i) s

/-- Output `i`'s time passes (R180). -/
def outputPasses (i : Fin 4) (s : State) : State :=
  { s with fallback := { s.fallback with passed := s.fallback.passed.set i true } }

/-! ## The oscillator start timer and the straps (R176, R177) -/

/-- The oscillator start timer has run out. -/
def oscillatorOver (s : State) : Bool :=
  decide (s.mode = .oscillator) && ranOut s.startup.oscillatorUntil s

/-- The straps are read once; start-up goes on to the image, read in one pass from memory address 0, or
enters clock fallback without the main clock (R176 to R178). -/
def readStraps (clockRuns : Bool) (straps : BitVec 4) (s : State) : State :=
  let t := { s with startup := { s.startup with
    number := straps.toNat, strapsRead := true, oscillatorUntil := none } }
  if clockRuns then
    { t with mode := .image, tool := { t.tool with port := [[readCommand, 0x00]] } }
  else enterClockFallback t

/-! ## The image (R178) -/

/-- The pump records for a pump count (R40, R42, R68). -/
def fitPumps (count : Nat) : Pumps :=
  let at_ := fun i => Pump.reset (if i < count then .disabled else .notFitted)
  ⟨⟨at_ 0, at_ 1, at_ 2, at_ 3⟩, pumpIndices.filter fun p => decide (p.val < count)⟩

/-- A channel's record for its kind (R127, R146). -/
def fitGate (g : GateSettings) : Gate :=
  Gate.reset (if g.kind = .none then .notFitted else .unknown)

/-- The image as start-up keeps it: the bytes read, and none with status ABSENT (R170). -/
def keptImage (status : ImageStatus) (bytes : List Byte) : List Byte :=
  match status with
  | .absent => []
  | _ => bytes

/-- What the image fixes: its status, the settings, and which pumps and channels are fitted (R40,
R127, R178). -/
def fitStation (image : List Byte) (s : State) : State :=
  let bytes := imageBytes image
  let status := judgeImage bytes
  let c := settingsInForce status bytes
  { s with
    startup := { s.startup with
      imageStatus := some status, activeImage := keptImage status bytes, settings := c }
    pumps := fitPumps c.pumpCount
    gates := ⟨c.gate.map fitGate, none⟩
    meas := { s.meas with source := if c.sumpFitted then .lost else .notFitted } }

/-- The LISTEN window opens, and with it the first converter scan begins; the window does not end where
the own number is invalid (R1, R87, R88, R177). -/
def openWindow (s : State) : State :=
  { s with
    meas := { s.meas with sampleFrom := some s.now }
    line := { s.line with
      state := .listen
      window := if strapFault s then .endless else .opened (s.now + windowLength)
      islandFrom := some s.now } }

/-- The lighting outputs as the opening of the window sets them, with their load, and the steps in use
(R150, R154, R158). -/
def lightUp (s : State) : State :=
  { s with lights := { s.lights with
      duty := dutiesOf s
      load := lightingLoad s.settings (dutiesOf s)
      steps := stepsInUse s.settings } }

/-- The steps in use of a start-up into configuration fallback, 1 to 8: the spec fixes them and does not
state them (R150; log entry 12). -/
def freeSteps (s : State) : State :=
  useFree { s with lights := { s.lights with steps := (Config.freeSteps s.free).val + 1 } }

/-- The flash clock starts, in its first half (R164). -/
def startFlash (s : State) : State :=
  { s with signs := { s.signs with firstHalf := true, flashAt := some (s.now + halfSecond) } }

/-- The sign sequencer and the flash clock begin (R161, R164). -/
def startSigns (s : State) : State := showEntry 0 0 (startFlash s)

/-- Normal operation begins at the opening of the window (R136, R178). -/
def beginOperation (s : State) : State :=
  let t := { s with mode := .operating }
  let t := { t with gates := { t.gates with lowStageAt := some t.now } }
  handOver (handLoad computeH (startSigns (lightUp t)))

/-- Configuration fallback begins at the opening of the window (R37, R158, R180). The sequencer does not
run (R166); that the flash clock, which R164 starts at the opening and stops only at a reset or with
the main clock, runs beneath it is DEDUCED (log entry 48). -/
def beginConfigFallback (s : State) : State :=
  let t := freeSteps (startFlash s)
  { t with
    mode := .configFallback
    stage := { t.stage with speedReference := fallbackReference } }

/-- Every block at its value after reset, as start-up has kept it, with the straps as read (R176). -/
def blocksAtReset (s : State) : State := { resetTo s.startup.cause s with startup := s.startup }

/-- The image has been read and is judged, and the LISTEN window opens: every block begins from its
value after reset (R176, R178). -/
def judgeAndOpen (image : List Byte) (s : State) : State :=
  let t := openWindow (fitStation image (blocksAtReset s))
  if imageTrusted t then beginOperation t else beginConfigFallback t

/-! ## Signs (R162, R164) and the site stage (R29) -/

/-- The dwell timer has run out. -/
def dwellOver (s : State) : Bool := operating s && ranOut s.signs.dwellUntil s

/-- The entry after the shown one, back to 0 past the program's end (R162). -/
def nextEntry (s : State) : Nat :=
  if s.signs.entry + 1 < programLength s.settings s.signs.stage then s.signs.entry + 1 else 0

/-- The flash clock's half has run out. -/
def flashOver (s : State) : Bool := lineRuns s && ranOut s.signs.flashAt s

/-- The flash clock changes half, and while the sequencer runs the outputs are set afresh (R164 to
R166). -/
def flashTurns (s : State) : State :=
  let t := { s with signs := { s.signs with
    firstHalf := !s.signs.firstHalf, flashAt := s.signs.flashAt.map (· + halfSecond) } }
  if operating t then refreshSigns t else t

/-- The descent hold has run out with M below the site stage (R29). -/
def descentOver (s : State) : Bool :=
  lineRuns s && ranOut s.stage.hold s && decide (s.stage.maximum < s.stage.site)

/-- One sampling of the digital inputs in clock fallback, timed from the 32,768 Hz oscillator (R19). -/
def fallbackSample (p : Pins) (s : State) : State :=
  sampleInputs p { s with meas := { s.meas with sampleFrom := some s.now } }

/-- The 20 ms to the next sampling in clock fallback have passed (R19). -/
def fallbackSampleOver (s : State) : Bool := decide (s.mode = .clockFallback) && sampleOver s

/-- The inputs are filtered: from the opening of the window, and in clock fallback (R10, R19). -/
def filtersRun (s : State) : Bool := lineRuns s || decide (s.mode = .clockFallback)

/-- The new state of the day/night input is received, and in normal operation the lighting is recomputed (R148,
R154). -/
def dayNightTaken (s : State) : State :=
  let t := { s with inputs := { s.inputs with dayNight := s.inputs.dayNight.take } }
  if operating t then relight handOver t else t

end Sys2Proof.Machine
end

