-- ==== Sys2Proof/Machine/Operands.lean ====
section
/-! DEFINITION. How a command's operands become what the block takes: the time that has passed, the frames that
the frame rows carry (R71, R183), and the guard under which a row has its effect (log entries 1 and
2). -/

namespace Sys2Proof.Machine

/-- The outcome of a command. -/
abbrev Outcome : Type := Host.Outcome State Fault Refusal

/-- A command's outcome: the clock moves on by `dt`, and where the guard holds at that moment the row
has its effect. A row sent while its guard does not hold names an event that has not come: only the
clock moves (log entry 2). -/
def takeEvent (guard : State → Bool) (effect : State → State) (dt : Nat) (s : State) : Outcome :=
  .next (if guard (advance dt s) then effect (advance dt s) else advance dt s)

/-- A peer frame's content (R71): a station sends its own kinds to target 0, answers to 15. -/
def stationFrame (kind target : Nat) (sender : Fin 16) (sequence : Byte) (payload : List Byte) : Frame :=
  ⟨kind, sender.val, target, sequence, payload⟩

/-- A TOOL QUERY for one record (R183). -/
def queryFrame (code : Byte) (target : Fin 16) (sequence index : Byte) : Frame :=
  ⟨toolQueryKind, 15, target.val, sequence, [code, index]⟩

/-- A TOOL ORDER with its data (R183). -/
def orderFrame (code : Byte) (target : Fin 16) (sequence index : Byte) (data : List Byte) : Frame :=
  ⟨toolOrderKind, 15, target.val, sequence, code :: index :: data⟩

/-- A frame can arrive whole now: the line controller runs, the station is not sending, and no other
frame waits to be judged. -/
def frameArrives (s : State) : Bool := receiving s

/-- A whole frame with a matching check arrives, its last stop bit ending now: a partial frame before it
is lost by the gap rule, the idle count restarts, and the frame is judged (R70, R72, R73). -/
def arriveFrame (f : Frame) (lockPin : Bool) (s : State) : State :=
  let t := match s.line.receiver with
    | .hunting => s
    | .assembling _ _ => discardPartial s
  takeFrame f lockPin (restartIdle t)

/-- The complete frame that the receiver holds. -/
def heldFrame (s : State) : Option (List Byte) :=
  if lineRuns s && s.line.sending.isNone then frameHeld s.line.receiver else none

/-- The receiver's complete frame is judged good. -/
def heldGood (s : State) : Option Frame :=
  match heldFrame s with
  | some bytes =>
    match judgeBytes s bytes with
    | .good f => some f
    | _ => none
  | none => none

/-- The receiver's complete frame fails a test. -/
def heldBad (s : State) : Option Verdict :=
  match heldFrame s with
  | some bytes =>
    match judgeBytes s bytes with
    | .good _ => none
    | v => some v
  | none => none

/-- The good frame held is taken (R73, R74). -/
def takeHeld (lockPin : Bool) (s : State) : State :=
  match heldGood s with
  | some f => handOn f lockPin (setReceiver .hunting s)
  | none => s

/-- The frame held is discarded and counted (R73). -/
def discardHeld (s : State) : State :=
  match heldBad s with
  | some v => countBad v (setReceiver .hunting s)
  | none => s

/-- The head's attempt begins (R76). -/
def attemptBegins (idle : Nat) (s : State) : State :=
  match attemptReady idle s with
  | some e => beginAttempt e s
  | none => s

/-- The attempt on the line collides (R77). -/
def attemptCollides (s : State) : State :=
  match attemptAt true s with
  | some e => collide e s
  | none => s

/-- The frame on the line has been sent (R84). -/
def attemptSent (s : State) : State :=
  match attemptDone s with
  | some e => sendDone e s
  | none => s

/-- The intent window ends (R117). -/
def intentWindowEnds (s : State) : State :=
  match windowOver s with
  | some i => windowEnds i s
  | none => s

/-- The read-status poll falls within the write's time (R173). -/
def pollDue (s : State) : Bool :=
  match pollingWrite s with
  | some w => decide (s.now ≤ w.acceptedAt + writeTime)
  | none => false

/-- The read-status poll completes (R173). -/
def pollWrite (status : Byte) (s : State) : State :=
  match pollingWrite s with
  | some w => pollStatus status w s
  | none => s

/-- The read-back completes (R173). -/
def readBack (data : List Byte) (s : State) : State :=
  match readBackWrite s with
  | some w => compareWrite data w s
  | none => s

/-- The write's time has passed without a finished status (R173). -/
def writeTimedOut (s : State) : Bool :=
  match pollingWrite s with
  | some w => decide (w.acceptedAt + writeTime ≤ s.now)
  | none => false

/-- The write fails on its time (R173). -/
def writeFails (s : State) : State :=
  match pollingWrite s with
  | some w => endWrite .failed w s
  | none => s

end Sys2Proof.Machine
end

