-- ==== Sys2Proof/Machine/GateControl.lean ====
section
/-! DEFINITION. The commands of chapter 7 that come from inputs and timers. One meaning for each
command: the guard under which the event has come, and its effect. -/

namespace Sys2Proof.Machine

/-- DEAD_TIME_END (R129). 500 ms after the other drive dropped, the waiting drive of a CLOSING or
OPENING channel comes on. -/
def execDeadTimeEnd (dt : Nat) (channel : Fin 2) (s : State) : Outcome :=
  takeEvent operating (fun t => gatesChanged handOver t (driveComesOn channel t)) dt s

/-- GATE_LIMIT_CHANGE (R132). A new stable state of a limit switch ends a travel, sets a position
from UNKNOWN, or gives a drift or a limit conflict. -/
def execGateLimitChange (dt : Nat) (channel : Fin 2) (limit : LimitId) (s : State) : Outcome :=
  takeEvent (fun t => filtersRun t && (limitFilter t channel limit).due)
    (limitChanged channel limit) dt s

/-- DRIFT_TIME_LAPSE (R142). The drift time becomes absent 10 min after it was recorded. -/
def execDriftTimeLapse (dt : Nat) (channel : Fin 2) (s : State) : Outcome :=
  takeEvent (driftAged channel) (driftLapses channel) dt s

/-- OBSTRUCTION_CHANGE (R133). An obstruction becoming ACTIVE suspends a CLOSING channel, and its
becoming CLEAR starts the clear-lane times. -/
def execObstructionChange (dt : Nat) (channel : Fin 2) (s : State) : Outcome :=
  takeEvent (fun t => filtersRun t && (t.inputs.gate.get channel).obstruction.due)
    (obstructionChanged channel) dt s

/-- OBSTRUCTION_CLEAR_3S (R133). When the lane has been clear for 3 s, a SUSPENDED channel resumes
closing if the hold key and interlock allow. -/
def execObstructionClear3s (dt : Nat) (channel : Fin 2) (s : State) : Outcome :=
  takeEvent (fun t => operating t && laneClearFor laneClearToResume t channel)
    (fun t => gatesChanged handOver t t) dt s

/-- OBSTRUCTION_CLEAR_5S (R131). When the lane has been clear for 5 s, a flood gate may begin
closing. -/
def execObstructionClear5s (dt : Nat) (channel : Fin 2) (s : State) : Outcome :=
  takeEvent (fun t => operating t && laneClearFor laneClearToBegin t channel)
    (fun t => gatesChanged handOver t t) dt s

/-- GATE_HOLD_PRESS (R134). The gate hold key becoming ACTIVE puts every CLOSING, OPENING or
SUSPENDED channel in HELD. -/
def execGateHoldPress (dt : Nat) (s : State) : Outcome :=
  takeEvent (fun t => filtersRun t && decide (t.inputs.holdKey.next = some .active))
    holdPressed dt s

/-- GATE_HOLD_RELEASE (R135). The gate hold key leaving ACTIVE resumes or suspends each HELD channel
by its direction, obstruction and interlock. -/
def execGateHoldRelease (dt : Nat) (s : State) : Outcome :=
  takeEvent (fun t => filtersRun t && decide (t.inputs.holdKey.next = some .inactive))
    holdReleased dt s

/-- FORCE_CLOSE_KEY_CHANGE (R131). A change of the force-close key changes flood gates' barrier
interlock and retries their closing or resumption. -/
def execForceCloseKeyChange (dt : Nat) (s : State) : Outcome :=
  takeEvent (fun t => filtersRun t && t.inputs.forceCloseKey.due) forceCloseChanged dt s

/-- REOPEN_KEY (R137). The reopen key becoming ACTIVE at site stage 0 or 1 gives each CLOSED or
UNKNOWN flood gate a reopen request. -/
def execReopenKey (dt : Nat) (s : State) : Outcome :=
  takeEvent (fun t => filtersRun t && decide (t.inputs.reopenKey.next = some .active))
    reopenPressed dt s

/-- LOW_STAGE_TIME_ELAPSED (R136). The low-stage time becomes 60 s old, and barriers become ready to
open and ask for consent. -/
def execLowStageTimeElapsed (dt : Nat) (s : State) : Outcome :=
  takeEvent (fun t => operating t && lastedFor t.gates.lowStageAt lowStageAge t)
    (fun t => gatesChanged handOver t t) dt s

/-- TRAVEL_TIMEOUT (R140). Travel used reaching the travel limit with the drive on puts the channel
in FAULT with cause TRAVEL. -/
def execTravelTimeout (dt : Nat) (channel : Fin 2) (s : State) : Outcome :=
  takeEvent (travelOver channel) (travelFails channel) dt s

end Sys2Proof.Machine
end

