-- ==== Sys2Proof/Machine/LightsAndSigns.lean ====
section
/-! DEFINITION. The commands of chapters 8 and 9. One meaning for each command: the guard under
which the event has come, and its effect. -/

namespace Sys2Proof.Machine

/-- DAY_NIGHT_CHANGE (R148). A new stable state of the day/night input changes the INTERIOR source
levels and the lighting is recomputed. -/
def execDayNightChange (dt : Nat) (s : State) : Outcome :=
  takeEvent (fun t => filtersRun t && t.inputs.dayNight.due) dayNightTaken dt s

/-- ENTRANCE_STEP_MOVE (R151). An up or down run lasting 30 s moves the entrance step by one and
empties both runs. -/
def execEntranceStepMove (dt : Nat) (s : State) : Outcome :=
  takeEvent operating stepMove dt s

/-- DWELL_TIMER_EXPIRY (R162). When the dwell timer runs out, the sequencer moves to the next entry
or wraps, and the outputs take the new scene. -/
def execDwellTimerExpiry (dt : Nat) (s : State) : Outcome :=
  takeEvent dwellOver (fun t => showEntry t.signs.stage (nextEntry t) t) dt s

/-- FLASH_CLOCK_HALF (R164). The flash clock changes half every 500 ms, and the flashing sign
outputs are set afresh. -/
def execFlashClockHalf (dt : Nat) (s : State) : Outcome :=
  takeEvent flashOver flashTurns dt s

end Sys2Proof.Machine
end

