-- ==== Sys2Proof/Machine/Measurement.lean ====
section
/-! DEFINITION. Scan ends, level updates, floats and the descent hold: the commands of chapters 1
and 2. One meaning for each command: the guard under which the event has come, and its effect. -/

namespace Sys2Proof.Machine

/-- SCAN_END (R1). Slot 7 of a converter scan completes; the reference is judged, samples are
delivered if the converter is GOOD, and every digital input is sampled. -/
def execScanEnd (dt : Nat) (scan : Scan) (pins : Pins) (s : State) : Outcome :=
  takeEvent scanOver (scanStep scan pins) dt s

/-- CONVERTER_FAULT (R2). A third consecutive bad scan puts the converter in FAULTED, invalidates
analog values, empties both averages and zeroes the loop run counts. -/
def execConverterFault (dt : Nat) (scan : Scan) (pins : Pins) (s : State) : Outcome :=
  takeEvent (fun t => scanOver t && converterFaults scan t) (scanStep scan pins) dt s

/-- CONVERTER_RECOVERY (R2). A 50th consecutive good scan returns the converter to GOOD, and that
scan's samples are delivered. -/
def execConverterRecovery (dt : Nat) (scan : Scan) (pins : Pins) (s : State) : Outcome :=
  takeEvent (fun t => scanOver t && converterRecovers scan t) (scanStep scan pins) dt s

/-- LOOP_FAULT (R4). A low or high run reaching 3 puts the loop in OPEN or OVER, empties its average
and makes it invalid. -/
def execLoopFault (dt : Nat) (loop : LoopId) (scan : Scan) (pins : Pins) (s : State) : Outcome
    :=
  takeEvent (fun t => scanOver t && loopFaults loop scan t) (scanStep scan pins) dt s

/-- LOOP_RECOVERY (R5). A recovery count reaching 50 returns the loop to NORMAL with a new average
starting from that sample. -/
def execLoopRecovery (dt : Nat) (loop : LoopId) (scan : Scan) (pins : Pins) (s : State) :
    Outcome :=
  takeEvent (fun t => scanOver t && loopRecovers loop scan t) (scanStep scan pins) dt s

/-- LEVEL_UPDATE (R8). At every eighth scan end the level and level source are formed from the two
loops, followed by disagreement, rate restart, inflow, stage, demand and trim. -/
def execLevelUpdate (dt : Nat) (s : State) : Outcome :=
  takeEvent (fun t => scanning t && t.meas.levelDue) levelUpdate dt s

/-- RATE_TIMER (R14). When the 10 s rate timer runs out, ΔL is computed, R_f is filtered, L_prev is
updated and the timer reloads. -/
def execRateTimer (dt : Nat) (s : State) : Outcome :=
  takeEvent rateTimerEnds computeRate dt s

/-- FLOAT_STATE_CHANGE (R12). A float or probe reaches a new stable state, which feeds its chatter
list and may change its reported state. -/
def execFloatStateChange (dt : Nat) (input : WaterInput) (s : State) : Outcome :=
  takeEvent (fun t => filtersRun t && (waterFilter t input).due) (fun t => takeWater t input) dt s

/-- CHANGE_LIST_ENTRY_EXPIRY (R12). An entry in a float's or probe's change list leaves it 10 s
after it joined. -/
def execChangeListEntryExpiry (dt : Nat) (input : WaterInput) (s : State) : Outcome :=
  takeEvent filtersRun (dropOldChange input) dt s

/-- CHATTER_QUIET_TIMER (R13). After 60 s with no change in CHATTER, the input returns to CLEAR and
reports its stable state. -/
def execChatterQuietTimer (dt : Nat) (input : WaterInput) (s : State) : Outcome :=
  takeEvent filtersRun (chatterEnds input) dt s

/-- DESCENT_HOLD_EXPIRY (R29). When the descent hold runs out, the site stage falls by one, and the
hold restarts if M is still below the new stage. -/
def execDescentHoldExpiry (dt : Nat) (s : State) : Outcome :=
  takeEvent descentOver descend dt s

end Sys2Proof.Machine
end

