-- ==== Sys2Proof/Machine/PeerFrames.lean ====
section
/-! DEFINITION. Peer frames as whole frames, and the aging of the peer view: the commands of chapter
5. One meaning for each command: the guard under which the event has come, and its effect. -/

namespace Sys2Proof.Machine

/-- STATUS_REPORT_RECEIVED (R96). A peer's STATUS REPORT sets the entry's report contents, last
local stage, claim and fallback flag. -/
def execStatusReportReceived (dt : Nat) (sender : Fin 16) (seq : Byte) (payload : List Byte) (s
    : State) : Outcome :=
  takeEvent frameArrives (arriveFrame (stationFrame 1 0 sender seq payload) false) dt s

/-- STAGE_CALL_RECEIVED (R97). A peer's STAGE CALL sets the entry's last local stage. -/
def execStageCallReceived (dt : Nat) (sender : Fin 16) (seq : Byte) (stage : Byte) (s : State) :
    Outcome :=
  takeEvent frameArrives (arriveFrame (stationFrame 3 0 sender seq [stage]) false) dt s

/-- START_INTENT_RECEIVED (R104). A peer's START INTENT enters or replaces its entry in the
reservation list and is handed to the supply block. -/
def execStartIntentReceived (dt : Nat) (sender : Fin 16) (seq : Byte) (pump : Byte) (inrush :
    BitVec 16) (urgency : Byte) (attempt : Byte) (s : State) : Outcome :=
  takeEvent frameArrives
    (arriveFrame (stationFrame 2 0 sender seq
      (pump :: word16 inrush.toNat ++ [urgency, attempt])) false) dt s

/-- SHED_CALL_RECEIVED (R122). A peer's SHED CALL is recorded, restarts the restore timer and raises
the shed offset if any sheddable circuit is above its floor. -/
def execShedCallReceived (dt : Nat) (sender : Fin 16) (seq : Byte) (shortfall : BitVec 16)
    (urgency : Byte) (s : State) : Outcome :=
  takeEvent frameArrives
    (arriveFrame (stationFrame 4 0 sender seq (word16 shortfall.toNat ++ [urgency])) false) dt s

/-- STATION_ANSWER_RECEIVED (R97). A peer's STATION ANSWER only refreshes the peer's entry. -/
def execStationAnswerReceived (dt : Nat) (sender : Fin 16) (seq : Byte) (payload : List Byte) (s
    : State) : Outcome :=
  takeEvent frameArrives (arriveFrame (stationFrame 10 15 sender seq payload) false) dt s

/-- OWN_NUMBER_FRAME_RECEIVED (R102). A good frame bearing the own number is counted; its time joins
the own-number list, or, if the list holds a time, the clash condition is met. -/
def execOwnNumberFrameReceived (dt : Nat) (kind : Byte) (target : Fin 16) (seq : Byte) (payload
    : List Byte) (s : State) : Outcome :=
  takeEvent (fun t => frameArrives t && !strapFault t)
    (fun t => arriveFrame ⟨kind.toNat, t.startup.number, target.val, seq, payload⟩ false t) dt s

/-- OWN_NUMBER_LIST_EXPIRY (R102). A time in the own-number list leaves it 20 s after it joined. -/
def execOwnNumberListExpiry (dt : Nat) (s : State) : Outcome :=
  takeEvent ownNumberAged dropOwnNumber dt s

/-- PEER_STALE (R98). A peer entry becomes STALE 6 s after its last frame. -/
def execPeerStale (dt : Nat) (station : Fin 16) (s : State) : Outcome :=
  takeEvent (peerAged station.val staleTime) (becomeStale station.val) dt s

/-- PEER_REMOVAL (R98). A peer entry is removed 20 s after its last frame, taking its stage out of M
and its claim out of the claim sum. -/
def execPeerRemoval (dt : Nat) (station : Fin 16) (s : State) : Outcome :=
  takeEvent (peerAged station.val removalTime) (removePeer station.val) dt s

/-- RESERVATION_EXPIRY (R106). A reservation entry leaves the list S after its arrival, and the slot
becomes free when the list empties. -/
def execReservationExpiry (dt : Nat) (sender : Fin 16) (s : State) : Outcome :=
  takeEvent (reservationAged sender.val) (expireReservation sender.val) dt s

end Sys2Proof.Machine
end

