-- ==== Sys2Proof/Machine/PumpControl.lean ====
section
/-! DEFINITION. The commands of chapter 3 that come from timers, checks and the panel. One meaning
for each command: the guard under which the event has come, and its effect. -/

namespace Sys2Proof.Machine

/-- SELECTOR_CHANGE (R45 to R47). A selector's new stable position disables the pump at OFF, or
takes it from DISABLED to OFF (clearing any lockout cause) at AUTO or HAND, and a HAND pump is
handled by R47. -/
def execSelectorChange (dt : Nat) (pump : Fin 4) (s : State) : Outcome :=
  takeEvent (fun t => filtersRun t && (t.inputs.selector.get pump).due) (selectorChanged pump) dt s

/-- PUMP_FEEDBACK_CHANGE (R57). A pump's run feedback reaches a new stable state, which starts or
ends the 1 s OPEN measure used by the attempt and trip checks. -/
def execPumpFeedbackChange (dt : Nat) (pump : Fin 4) (s : State) : Outcome :=
  takeEvent (fun t => filtersRun t && (t.inputs.feedback.get pump).due) (feedbackTaken pump) dt s

/-- FEEDBACK_CHECK (R50). At the first scan end 2 s after entry to STARTING, the feedback and
current are checked, and the attempt fails or enters the settle phase. -/
def execFeedbackCheck (dt : Nat) (pump : Fin 4) (s : State) : Outcome :=
  takeEvent (checkDue pump) (feedbackChecked pump) dt s

/-- ATTEMPT_FEEDBACK_LOSS (R51). Run feedback stably OPEN for 1 s during the settle phase fails the
attempt. -/
def execAttemptFeedbackLoss (dt : Nat) (pump : Fin 4) (s : State) : Outcome :=
  takeEvent (lossDue pump) (failAttempt pump) dt s

/-- ATTEMPT_TIMEOUT (R51). An attempt not settled at the first scan end 2 × t_s after entry to
STARTING fails. -/
def execAttemptTimeout (dt : Nat) (pump : Fin 4) (s : State) : Outcome :=
  takeEvent (timeoutDue pump) (failAttempt pump) dt s

/-- RETRY_PAUSE_EXPIRY (R54). When the 10 s retry pause runs out, the pump enters WAITING with the
next attempt number, or stays stranded if its history is full. -/
def execRetryPauseExpiry (dt : Nat) (pump : Fin 4) (s : State) : Outcome :=
  takeEvent (pauseOver pump) (pauseEnds pump) dt s

/-- START_HISTORY_ENTRY_EXPIRY (R56). A start history entry leaves after 3600 s, which may let a
stranded RETRY-WAIT pump into WAITING. -/
def execStartHistoryEntryExpiry (dt : Nat) (pump : Fin 4) (s : State) : Outcome :=
  takeEvent (historyAged pump) (historyLeaves pump) dt s

/-- OVERCURRENT_TRIP (R57). A current at or above the trip code for 100 scan ends trips a running
pump into RESTING, or into LOCKED-OUT when its trouble count is 15. -/
def execOvercurrentTrip (dt : Nat) (pump : Fin 4) (s : State) : Outcome :=
  takeEvent (overcurrentDue pump) (trip pump) dt s

/-- FEEDBACK_LOSS_TRIP (R57). Run feedback stably OPEN for 1 s trips a pump in RUNNING or RUN-ON
into RESTING or LOCKED-OUT. -/
def execFeedbackLossTrip (dt : Nat) (pump : Fin 4) (s : State) : Outcome :=
  takeEvent (feedbackLossDue pump) (trip pump) dt s

/-- RUN_ON_TIMER_EXPIRY (R58). When the run-on timer runs out, the contactor drops and the pump
enters RESTING at the tail of the duty order. -/
def execRunOnTimerExpiry (dt : Nat) (pump : Fin 4) (s : State) : Outcome :=
  takeEvent (runOnOver pump) (runOnEnds pump) dt s

/-- REST_TIMER_EXPIRY (R59). When the rest timer runs out, the pump enters OFF. -/
def execRestTimerExpiry (dt : Nat) (pump : Fin 4) (s : State) : Outcome :=
  takeEvent (restOver pump) (restEnds pump) dt s

/-- PANEL_RESET_KEY (R60, R143). The panel reset key becoming ACTIVE zeroes the trouble counts of
pumps that are not locked out and clears every gate channel in FAULT. -/
def execPanelResetKey (dt : Nat) (s : State) : Outcome :=
  takeEvent (fun t => filtersRun t && decide (t.inputs.panelResetKey.next = some .active))
    panelReset dt s

end Sys2Proof.Machine
end

