-- ==== Sys2Proof/Machine/Startup.lean ====
section
/-! DEFINITION. Reset, start-up, the clock monitor and the fallback logic: the commands of chapter
11. One meaning for each command: the guard under which the event has come, and its effect. -/

namespace Sys2Proof.Machine

/-- RESET (R176). A power-on, brown-out or reset-pin reset puts every block and output to its reset
value and begins start-up, recording the cause. -/
def execReset (dt : Nat) (event : ResetEvent) (s : State) : Outcome :=
  takeEvent (fun _ => true) (takeReset event) dt s

/-- OSCILLATOR_START_TIMER (R176, R177). At the end of the 20 ms oscillator start timer, start-up
goes on if the main clock runs, and otherwise reads the straps and enters clock fallback. -/
def execOscillatorStartTimer (dt : Nat) (clockRuns : Bool) (straps : BitVec 4) (s : State) :
    Outcome :=
  takeEvent oscillatorOver (readStraps clockRuns straps) dt s

/-- IMAGE_READ_COMPLETE (R178). The 256-byte image read ends and is judged ABSENT, INVALID, CLAMPED
or VALID, and then the LISTEN window opens in normal operation or in configuration fallback. -/
def execImageReadComplete (dt : Nat) (image : List Byte) (s : State) : Outcome :=
  takeEvent (fun t => decide (t.mode = .image)) (judgeAndOpen image) dt s

/-- MAIN_CLOCK_LOSS (R179). The main clock has been absent for more than 2 ms, and the station
enters clock fallback from any state; in clock fallback the 20 ms of CLOCK_RETURN start again. -/
def execMainClockLoss (dt : Nat) (s : State) : Outcome :=
  takeEvent clockWatched loseClock dt s

/-- CLOCK_RETURN (R179). The main clock has run for 20 ms without a break in clock fallback, and the
station resets with cause CLOCK. -/
def execClockReturn (dt : Nat) (s : State) : Outcome :=
  takeEvent clockBack (resetTo .clock) dt s

/-- FALLBACK_OUTPUT_TIME (R180). Output i's time (start + n × 2 s + i × 5 s) passes, and it is
energised if its selector and the low float allow. -/
def execFallbackOutputTime (dt : Nat) (output : Fin 4) (s : State) : Outcome :=
  takeEvent (outputDue output) (outputPasses output) dt s

/-- FALLBACK_INPUT_SAMPLE (R179). In clock fallback, every 20 ms timed from the 32,768 Hz
oscillator, every switch, selector and key input is sampled and filtered, and the floats' chatter
states go on, feeding the fallback pump logic. -/
def execFallbackInputSample (dt : Nat) (pins : Pins) (s : State) : Outcome :=
  takeEvent fallbackSampleOver (fallbackSample pins) dt s

/-- RESET_PIN_RELEASE (R176). The reset pin, driven active and holding the part in reset, is
released, and start-up begins with the oscillator start timer. -/
def execResetPinRelease (dt : Nat) (s : State) : Outcome :=
  takeEvent (fun t => decide (t.mode = .held)) releaseReset dt s

end Sys2Proof.Machine
end

