-- ==== Sys2Proof/Machine/StationLine.lean ====
section
/-! DEFINITION. The receiver, attempts, line states and the report schedule: the commands of chapter
4. One meaning for each command: the guard under which the event has come, and its effect. -/

namespace Sys2Proof.Machine

/-- FRAME_RECEIVED (R73). A complete frame is judged by the checks and, if good, is counted and
handed on according to its sender and kind. -/
def execFrameReceived (dt : Nat) (lockPin : Bool) (s : State) : Outcome :=
  takeEvent (fun t => (heldGood t).isSome) (takeHeld lockPin) dt s

/-- BAD_FRAME_RECEIVED (R73). A complete frame that fails a test is discarded and counted as broken,
unknown kind or discarded query. -/
def execBadFrameReceived (dt : Nat) (s : State) : Outcome :=
  takeEvent (fun t => (heldBad t).isSome) discardHeld dt s

/-- PARTIAL_FRAME_DISCARD (R72). A partial frame with a length over 40, a framing error or an idle
gap over 4 bit times is discarded as broken, and the receiver hunts again. -/
def execPartialFrameDiscard (silence : Silence) (s : State) : Outcome :=
  takeEvent (discardDue silence.idle) discardPartial silence.dt s

/-- ATTEMPT_BEGIN (R76). The idle count reaches the queue head's quiet interval (plus 8n on a
retry), and an attempt of the head frame begins, a report payload being built at its first attempt.
-/
def execAttemptBegin (silence : Silence) (s : State) : Outcome :=
  takeEvent (fun t => (attemptReady silence.idle t).isSome) (attemptBegins silence.idle) silence.dt s

/-- COLLISION (R77). The station reads a low while sending a high, releases DEN and counts a
collision, and the frame is dropped NOT SENT after its eighth attempt. -/
def execCollision (dt : Nat) (rxd : Bool) (s : State) : Outcome :=
  takeEvent (fun t => !rxd && (attemptAt true t).isSome) attemptCollides dt s

/-- FRAME_SENT (R84). A frame's last check byte is sent without collision; the sequence number rises
and the placing block is told SENT. -/
def execFrameSent (dt : Nat) (s : State) : Outcome :=
  takeEvent (fun t => (attemptDone t).isSome) attemptSent dt s

/-- LINE_FAULT (R80). A low sent and read high, or a line low for more than 30 bit times, puts the
line state in LINE-FAULT and starts the 5 s probe timer. -/
def execLineFault (dt : Nat) (sign : LineFaultSign) (lowFor : Nat) (s : State) : Outcome :=
  takeEvent (lineFaultFound sign lowFor) enterLineFault dt s

/-- PROBE_TIMER_EXPIRY (R81). If the line has been high for the last 100 bit times, LINE-FAULT is
left for ON-LINE or LISTEN; otherwise the probe timer restarts. -/
def execProbeTimerExpiry (dt idle : Nat) (s : State) : Outcome :=
  takeEvent probeOver (probe idle) dt s

/-- PERIODIC_REPORT_DUE (R85). 2.0 s after the start time of the last report, a report falls due and
sets the change-pending flag. -/
def execPeriodicReportDue (dt : Nat) (s : State) : Outcome :=
  takeEvent periodicOver periodicDue dt s

/-- REPORT_MARKER_PLACE (R85). A pending report becomes a marker once the report place is empty, 200
ms have passed since the last report and the line state is ON-LINE or LINE-FAULT. -/
def execReportMarkerPlace (dt : Nat) (s : State) : Outcome :=
  takeEvent (fun t => lineRuns t && markerAllowed t) placeMarker dt s

/-- LISTEN_WINDOW_END (R87). The 2.5 s window ends: LISTEN becomes ON-LINE, a report falls due and
the budget mode leaves none. -/
def execListenWindowEnd (dt : Nat) (s : State) : Outcome :=
  takeEvent windowRanOut windowCloses dt s

/-- ISLAND_START (R88). The island timer reaches 20 s in ON-LINE, and ISLAND begins and is handed to
the supply block. -/
def execIslandStart (dt : Nat) (s : State) : Outcome :=
  takeEvent islandDue islandBegins dt s

/-- CLASH_TIMER_EXPIRY (R89). When the 60 s CLASH timer runs out, a new LISTEN window opens. -/
def execClashTimerExpiry (dt : Nat) (s : State) : Outcome :=
  takeEvent clashOver clashEnds dt s

/-- BYTE_RECEIVED (R72). A byte completes at the receiver; its start bit returned the idle count to
0, and a 0xA6 byte without a framing error while hunting begins assembly of a frame. -/
def execByteReceived (dt idle : Nat) (levels : BitVec 10) (s : State) : Outcome :=
  takeEvent receiving (receiveByte idle levels) dt s

end Sys2Proof.Machine
end

