-- ==== Sys2Proof/Machine/Supply.lean ====
section
/-! DEFINITION. The commands of chapter 6. One meaning for each command: the guard under which the
event has come, and its effect. -/

namespace Sys2Proof.Machine

/-- SUPPLY_MODE_CHANGE (R110). A new stable state of the supply-mode input changes B and makes a
report due. -/
def execSupplyModeChange (dt : Nat) (s : State) : Outcome :=
  takeEvent (fun t => filtersRun t && t.inputs.supplyMode.due) supplyModeTaken dt s

/-- INTENT_SPACING_ELAPSED (R113). S passes since the last own intent, and the forming of a new
intent is tried. -/
def execIntentSpacingElapsed (dt : Nat) (s : State) : Outcome :=
  takeEvent intentSpaced tryIntent dt s

/-- INTENT_WINDOW_EXPIRY (R117). When the intent window ends, a start grant is handed to pump
control if H ≥ P_in. -/
def execIntentWindowExpiry (dt : Nat) (s : State) : Outcome :=
  takeEvent (fun t => (windowOver t).isSome) intentWindowEnds dt s

/-- ENTRY_WAIT_EXPIRY (R119). The n-second entry wait into island mode runs out, and an island start
grant is tried. -/
def execEntryWaitExpiry (dt : Nat) (s : State) : Outcome :=
  takeEvent entryWaitOver entryWaitEnds dt s

/-- START_SPACING_ELAPSED (R119). S passes since the last own start in island mode, and an island
start grant is tried. -/
def execStartSpacingElapsed (dt : Nat) (s : State) : Outcome :=
  takeEvent startSpaced (tryIsland handOver) dt s

/-- OWN_SHORTFALL_TIMER_EXPIRY (R120). After 2 s with H below 0, the shed offset rises by 20 and the
timer restarts. -/
def execOwnShortfallTimerExpiry (dt : Nat) (s : State) : Outcome :=
  takeEvent (fun t => operating t && ranOut t.supply.shortfallUntil t) shortfallEnds dt s

/-- SHED_CALL_TIMER_EXPIRY (R121). When the 4 s shed-call timer runs out, it makes a short event if
the station is still short, or becomes absent. -/
def execShedCallTimerExpiry (dt : Nat) (s : State) : Outcome :=
  takeEvent (fun t => operating t && ranOut t.supply.shedCallUntil t) shedCallEnds dt s

/-- RESTORE_TIMER_EXPIRY (R123). After 60 s at or above the restore margin, the shed offset falls by
20 and the timer restarts if the conditions still hold. -/
def execRestoreTimerExpiry (dt : Nat) (s : State) : Outcome :=
  takeEvent (fun t => operating t && ranOut t.supply.restoreUntil t) restoreEnds dt s

end Sys2Proof.Machine
end

