-- ==== Sys2Proof/Machine/ToolDialogue.lean ====
section
/-! DEFINITION. The tool's queries and orders, the configuration write and the restart: the commands
of chapter 10. One meaning for each command: the guard under which the event has come, and its
effect. -/

namespace Sys2Proof.Machine

/-- A code that names no record kind or no order kind (R184). -/
def unknownCode (order : Bool) (code : Byte) : Bool :=
  if order then (orderKindOf code.toNat).isNone else (recordKindOf code.toNat).isNone

/-- A tool frame of either kind with no data (R183). -/
def requestFrame (order : Bool) (code : Byte) (target : Fin 16) (sequence index : Byte) : Frame :=
  if order then orderFrame code target sequence index [] else queryFrame code target sequence index

/-- CLEAR_LOCKOUT (R63). The tool order clears a named pump's lockout cause and takes it from
LOCKED-OUT to OFF. -/
def execClearLockout (dt : Nat) (target : Fin 16) (seq : Byte) (index : Byte) (s : State) :
    Outcome :=
  takeEvent frameArrives (arriveFrame (orderFrame 1 target seq index []) false) dt s

/-- CLEAR_PUMP_RECORD (R64). The tool order sets a named pump's trouble count to 0 and its last
outcome to CLEAN. -/
def execClearPumpRecord (dt : Nat) (target : Fin 16) (seq : Byte) (index : Byte) (s : State) :
    Outcome :=
  takeEvent frameArrives (arriveFrame (orderFrame 2 target seq index []) false) dt s

/-- PUMP_RECORD_QUERY (R66). The tool query returns a named pump's state, selector, trouble,
outcome, attention, lockout cause and starts in the last hour. -/
def execPumpRecordQuery (dt : Nat) (target : Fin 16) (seq : Byte) (index : Byte) (s : State) :
    Outcome :=
  takeEvent frameArrives (arriveFrame (queryFrame 2 target seq index) false) dt s

/-- CLEAR_COUNTERS (R90). The tool order sets all nine line counters to 0. -/
def execClearCounters (dt : Nat) (target : Fin 16) (seq : Byte) (index : Byte) (s : State) :
    Outcome :=
  takeEvent frameArrives (arriveFrame (orderFrame 5 target seq index []) false) dt s

/-- LINE_COUNTERS_QUERY (R90). The tool query returns the nine line counters. -/
def execLineCountersQuery (dt : Nat) (target : Fin 16) (seq : Byte) (index : Byte) (s : State) :
    Outcome :=
  takeEvent frameArrives (arriveFrame (queryFrame 6 target seq index) false) dt s

/-- PEER_VIEW_QUERY (R107). The tool query returns a named peer's entry and reservation, or absent.
-/
def execPeerViewQuery (dt : Nat) (target : Fin 16) (seq : Byte) (index : Byte) (s : State) :
    Outcome :=
  takeEvent frameArrives (arriveFrame (queryFrame 5 target seq index) false) dt s

/-- CLEAR_GATE_FAULT (R143). The tool order clears a named channel in FAULT and takes its state from
its limits. -/
def execClearGateFault (dt : Nat) (target : Fin 16) (seq : Byte) (index : Byte) (s : State) :
    Outcome :=
  takeEvent frameArrives (arriveFrame (orderFrame 3 target seq index []) false) dt s

/-- REOPEN_FLOOD_GATE (R137). The tool order gives a CLOSED or UNKNOWN flood gate a reopen request
at site stage 0 or 1. -/
def execReopenFloodGate (dt : Nat) (target : Fin 16) (seq : Byte) (index : Byte) (s : State) :
    Outcome :=
  takeEvent frameArrives (arriveFrame (orderFrame 4 target seq index []) false) dt s

/-- GATE_RECORD_QUERY (R145). The tool query returns a named channel's kind, state, direction,
travel used, fault cause, drift and reopen flags. -/
def execGateRecordQuery (dt : Nat) (target : Fin 16) (seq : Byte) (index : Byte) (s : State) :
    Outcome :=
  takeEvent frameArrives (arriveFrame (queryFrame 3 target seq index) false) dt s

/-- LIGHTING_RECORD_QUERY (R157). The tool query returns each circuit's kind, target and duty, the
shed offset, the entrance step and the day/night state. -/
def execLightingRecordQuery (dt : Nat) (target : Fin 16) (seq : Byte) (index : Byte) (s : State)
    : Outcome :=
  takeEvent frameArrives (arriveFrame (queryFrame 4 target seq index) false) dt s

/-- STATION_SUMMARY_QUERY (R170). The tool query returns the report fields, reset cause, image
status, line state and supply-block state. -/
def execStationSummaryQuery (dt : Nat) (target : Fin 16) (seq : Byte) (index : Byte) (s : State)
    : Outcome :=
  takeEvent frameArrives (arriveFrame (queryFrame 1 target seq index) false) dt s

/-- MEASUREMENT_RECORD_QUERY (R20). The tool query returns the loop means, levels, faults, float and
probe states, DISAGREE, rate and inflow. -/
def execMeasurementRecordQuery (dt : Nat) (target : Fin 16) (seq : Byte) (index : Byte) (s :
    State) : Outcome :=
  takeEvent frameArrives (arriveFrame (queryFrame 7 target seq index) false) dt s

/-- CONFIGURATION_CHUNK_QUERY (R170). The tool query returns 32 bytes of the active image from an
aligned offset. -/
def execConfigurationChunkQuery (dt : Nat) (target : Fin 16) (seq : Byte) (index : Byte) (s :
    State) : Outcome :=
  takeEvent frameArrives (arriveFrame (queryFrame 8 target seq index) false) dt s

/-- UNKNOWN_TOOL_REQUEST (R169). A tool query or order with an unknown record or order kind is
answered UNKNOWN. -/
def execUnknownToolRequest (dt : Nat) (target : Fin 16) (seq : Byte) (order : Bool) (code :
    Byte) (index : Byte) (s : State) : Outcome :=
  takeEvent (fun t => frameArrives t && unknownCode order code)
    (arriveFrame (requestFrame order code target seq index) false) dt s

/-- CONFIG_WRITE (R172). The tool order is judged for range, lock, busy slot and pending restart,
and if accepted fills the slot and sends write enable and the write command with its data. -/
def execConfigWrite (dt : Nat) (target : Fin 16) (seq : Byte) (offset : Byte) (data : List Byte)
    (lockPin : Bool) (s : State) : Outcome :=
  takeEvent frameArrives (arriveFrame (orderFrame configWriteCode target seq offset data) lockPin) dt s

/-- MEMORY_STATUS_POLL (R173). A read-status poll of the memory completes, and the station polls
again or, when the write has finished, reads the bytes back. -/
def execMemoryStatusPoll (dt : Nat) (status : Byte) (s : State) : Outcome :=
  takeEvent pollDue (pollWrite status) dt s

/-- READ_BACK_COMPARE (R173). The read-back ends and is compared with the data, the write ending
DONE or FAILED with its answer handed over. -/
def execReadBackCompare (dt : Nat) (data : List Byte) (s : State) : Outcome :=
  takeEvent (fun t => (readBackWrite t).isSome) (readBack data) dt s

/-- CONFIG_WRITE_TIMEOUT (R173). With no finished status within 20 ms of acceptance, polling stops
and the write ends FAILED. -/
def execConfigWriteTimeout (dt : Nat) (s : State) : Outcome :=
  takeEvent writeTimedOut writeFails dt s

/-- RESTART (R174). The tool order is refused while a gate is moving, and otherwise sets the
restart-pending flag. -/
def execRestart (dt : Nat) (target : Fin 16) (seq : Byte) (index : Byte) (s : State) : Outcome
    :=
  takeEvent frameArrives (arriveFrame (orderFrame 7 target seq index []) false) dt s

/-- RESTART_BEGIN (R174). Once the restart answer and any write in flight with its answer have
ended, the station resets with cause RESTART. -/
def execRestartBegin (dt : Nat) (s : State) : Outcome :=
  takeEvent restartReady (resetTo .restart) dt s

end Sys2Proof.Machine
end

