-- ==== Sys2Proof/Machine/Dispatch.lean ====
section
/-! DEFINITION. One arm for each command: the one call of its meaning. -/

namespace Sys2Proof.Machine

def exec (i : Instr) (s : State) : Host.Outcome State Fault Refusal :=
  match i with
  | .reset dt event => Sys2Proof.Machine.execReset dt event s
  | .oscillatorStartTimer dt clockRuns straps => Sys2Proof.Machine.execOscillatorStartTimer dt clockRuns straps s
  | .imageReadComplete dt image => Sys2Proof.Machine.execImageReadComplete dt image s
  | .mainClockLoss dt => Sys2Proof.Machine.execMainClockLoss dt s
  | .clockReturn dt => Sys2Proof.Machine.execClockReturn dt s
  | .scanEnd dt scan pins => Sys2Proof.Machine.execScanEnd dt scan pins s
  | .converterFault dt scan pins => Sys2Proof.Machine.execConverterFault dt scan pins s
  | .converterRecovery dt scan pins => Sys2Proof.Machine.execConverterRecovery dt scan pins s
  | .loopFault dt loop scan pins => Sys2Proof.Machine.execLoopFault dt loop scan pins s
  | .loopRecovery dt loop scan pins => Sys2Proof.Machine.execLoopRecovery dt loop scan pins s
  | .levelUpdate dt => Sys2Proof.Machine.execLevelUpdate dt s
  | .rateTimer dt => Sys2Proof.Machine.execRateTimer dt s
  | .floatStateChange dt input => Sys2Proof.Machine.execFloatStateChange dt input s
  | .changeListEntryExpiry dt input => Sys2Proof.Machine.execChangeListEntryExpiry dt input s
  | .chatterQuietTimer dt input => Sys2Proof.Machine.execChatterQuietTimer dt input s
  | .descentHoldExpiry dt => Sys2Proof.Machine.execDescentHoldExpiry dt s
  | .selectorChange dt pump => Sys2Proof.Machine.execSelectorChange dt pump s
  | .pumpFeedbackChange dt pump => Sys2Proof.Machine.execPumpFeedbackChange dt pump s
  | .feedbackCheck dt pump => Sys2Proof.Machine.execFeedbackCheck dt pump s
  | .attemptFeedbackLoss dt pump => Sys2Proof.Machine.execAttemptFeedbackLoss dt pump s
  | .attemptTimeout dt pump => Sys2Proof.Machine.execAttemptTimeout dt pump s
  | .retryPauseExpiry dt pump => Sys2Proof.Machine.execRetryPauseExpiry dt pump s
  | .startHistoryEntryExpiry dt pump => Sys2Proof.Machine.execStartHistoryEntryExpiry dt pump s
  | .overcurrentTrip dt pump => Sys2Proof.Machine.execOvercurrentTrip dt pump s
  | .feedbackLossTrip dt pump => Sys2Proof.Machine.execFeedbackLossTrip dt pump s
  | .runOnTimerExpiry dt pump => Sys2Proof.Machine.execRunOnTimerExpiry dt pump s
  | .restTimerExpiry dt pump => Sys2Proof.Machine.execRestTimerExpiry dt pump s
  | .panelResetKey dt => Sys2Proof.Machine.execPanelResetKey dt s
  | .clearLockout dt target seq index => Sys2Proof.Machine.execClearLockout dt target seq index s
  | .clearPumpRecord dt target seq index => Sys2Proof.Machine.execClearPumpRecord dt target seq index s
  | .pumpRecordQuery dt target seq index => Sys2Proof.Machine.execPumpRecordQuery dt target seq index s
  | .frameReceived dt lockPin => Sys2Proof.Machine.execFrameReceived dt lockPin s
  | .badFrameReceived dt => Sys2Proof.Machine.execBadFrameReceived dt s
  | .partialFrameDiscard silence => Sys2Proof.Machine.execPartialFrameDiscard silence s
  | .statusReportReceived dt sender seq payload => Sys2Proof.Machine.execStatusReportReceived dt sender seq payload s
  | .stageCallReceived dt sender seq stage => Sys2Proof.Machine.execStageCallReceived dt sender seq stage s
  | .startIntentReceived dt sender seq pump inrush urgency attempt => Sys2Proof.Machine.execStartIntentReceived dt sender seq pump inrush urgency attempt s
  | .shedCallReceived dt sender seq shortfall urgency => Sys2Proof.Machine.execShedCallReceived dt sender seq shortfall urgency s
  | .stationAnswerReceived dt sender seq payload => Sys2Proof.Machine.execStationAnswerReceived dt sender seq payload s
  | .ownNumberFrameReceived dt kind target seq payload => Sys2Proof.Machine.execOwnNumberFrameReceived dt kind target seq payload s
  | .ownNumberListExpiry dt => Sys2Proof.Machine.execOwnNumberListExpiry dt s
  | .peerStale dt station => Sys2Proof.Machine.execPeerStale dt station s
  | .peerRemoval dt station => Sys2Proof.Machine.execPeerRemoval dt station s
  | .reservationExpiry dt sender => Sys2Proof.Machine.execReservationExpiry dt sender s
  | .attemptBegin silence => Sys2Proof.Machine.execAttemptBegin silence s
  | .collision dt rxd => Sys2Proof.Machine.execCollision dt rxd s
  | .frameSent dt => Sys2Proof.Machine.execFrameSent dt s
  | .lineFault dt sign lowFor => Sys2Proof.Machine.execLineFault dt sign lowFor s
  | .probeTimerExpiry dt idle => Sys2Proof.Machine.execProbeTimerExpiry dt idle s
  | .periodicReportDue dt => Sys2Proof.Machine.execPeriodicReportDue dt s
  | .reportMarkerPlace dt => Sys2Proof.Machine.execReportMarkerPlace dt s
  | .listenWindowEnd dt => Sys2Proof.Machine.execListenWindowEnd dt s
  | .islandStart dt => Sys2Proof.Machine.execIslandStart dt s
  | .clashTimerExpiry dt => Sys2Proof.Machine.execClashTimerExpiry dt s
  | .clearCounters dt target seq index => Sys2Proof.Machine.execClearCounters dt target seq index s
  | .lineCountersQuery dt target seq index => Sys2Proof.Machine.execLineCountersQuery dt target seq index s
  | .peerViewQuery dt target seq index => Sys2Proof.Machine.execPeerViewQuery dt target seq index s
  | .supplyModeChange dt => Sys2Proof.Machine.execSupplyModeChange dt s
  | .intentSpacingElapsed dt => Sys2Proof.Machine.execIntentSpacingElapsed dt s
  | .intentWindowExpiry dt => Sys2Proof.Machine.execIntentWindowExpiry dt s
  | .entryWaitExpiry dt => Sys2Proof.Machine.execEntryWaitExpiry dt s
  | .startSpacingElapsed dt => Sys2Proof.Machine.execStartSpacingElapsed dt s
  | .ownShortfallTimerExpiry dt => Sys2Proof.Machine.execOwnShortfallTimerExpiry dt s
  | .shedCallTimerExpiry dt => Sys2Proof.Machine.execShedCallTimerExpiry dt s
  | .restoreTimerExpiry dt => Sys2Proof.Machine.execRestoreTimerExpiry dt s
  | .deadTimeEnd dt channel => Sys2Proof.Machine.execDeadTimeEnd dt channel s
  | .gateLimitChange dt channel limit => Sys2Proof.Machine.execGateLimitChange dt channel limit s
  | .driftTimeLapse dt channel => Sys2Proof.Machine.execDriftTimeLapse dt channel s
  | .obstructionChange dt channel => Sys2Proof.Machine.execObstructionChange dt channel s
  | .obstructionClear3s dt channel => Sys2Proof.Machine.execObstructionClear3s dt channel s
  | .obstructionClear5s dt channel => Sys2Proof.Machine.execObstructionClear5s dt channel s
  | .gateHoldPress dt => Sys2Proof.Machine.execGateHoldPress dt s
  | .gateHoldRelease dt => Sys2Proof.Machine.execGateHoldRelease dt s
  | .forceCloseKeyChange dt => Sys2Proof.Machine.execForceCloseKeyChange dt s
  | .reopenKey dt => Sys2Proof.Machine.execReopenKey dt s
  | .lowStageTimeElapsed dt => Sys2Proof.Machine.execLowStageTimeElapsed dt s
  | .travelTimeout dt channel => Sys2Proof.Machine.execTravelTimeout dt channel s
  | .clearGateFault dt target seq index => Sys2Proof.Machine.execClearGateFault dt target seq index s
  | .reopenFloodGate dt target seq index => Sys2Proof.Machine.execReopenFloodGate dt target seq index s
  | .gateRecordQuery dt target seq index => Sys2Proof.Machine.execGateRecordQuery dt target seq index s
  | .dayNightChange dt => Sys2Proof.Machine.execDayNightChange dt s
  | .entranceStepMove dt => Sys2Proof.Machine.execEntranceStepMove dt s
  | .lightingRecordQuery dt target seq index => Sys2Proof.Machine.execLightingRecordQuery dt target seq index s
  | .dwellTimerExpiry dt => Sys2Proof.Machine.execDwellTimerExpiry dt s
  | .flashClockHalf dt => Sys2Proof.Machine.execFlashClockHalf dt s
  | .stationSummaryQuery dt target seq index => Sys2Proof.Machine.execStationSummaryQuery dt target seq index s
  | .measurementRecordQuery dt target seq index => Sys2Proof.Machine.execMeasurementRecordQuery dt target seq index s
  | .configurationChunkQuery dt target seq index => Sys2Proof.Machine.execConfigurationChunkQuery dt target seq index s
  | .unknownToolRequest dt target seq order code index => Sys2Proof.Machine.execUnknownToolRequest dt target seq order code index s
  | .configWrite dt target seq offset data lockPin => Sys2Proof.Machine.execConfigWrite dt target seq offset data lockPin s
  | .memoryStatusPoll dt status => Sys2Proof.Machine.execMemoryStatusPoll dt status s
  | .readBackCompare dt data => Sys2Proof.Machine.execReadBackCompare dt data s
  | .configWriteTimeout dt => Sys2Proof.Machine.execConfigWriteTimeout dt s
  | .restart dt target seq index => Sys2Proof.Machine.execRestart dt target seq index s
  | .restartBegin dt => Sys2Proof.Machine.execRestartBegin dt s
  | .fallbackOutputTime dt output => Sys2Proof.Machine.execFallbackOutputTime dt output s
  | .fallbackInputSample dt pins => Sys2Proof.Machine.execFallbackInputSample dt pins s
  | .resetPinRelease dt => Sys2Proof.Machine.execResetPinRelease dt s
  | .byteReceived dt idle levels => Sys2Proof.Machine.execByteReceived dt idle levels s

end Sys2Proof.Machine
end

