-- ==== Sys2Proof/Safety.lean ====
section
/-! DEFINITION. What counts as a safe station: the laws that the spec states of every moment, as conditions on
one state. A claim says that every step keeps one of them. -/

namespace Sys2Proof.Safety

open Sys2Proof.Machine

/-- No pump contactor is energised while the low float does not report WET (R62). -/
def DryRun (s : State) : Prop := ∀ p, contactor s p = true → lowWet s = true

/-- At most one pump of the station is in STARTING (R49). -/
def OneStart (s : State) : Prop :=
  ∀ p q, (s.pump p).state = .starting → (s.pump q).state = .starting → p = q

/-- No start history holds more entries than the starts-per-hour limit (R56). -/
def Histories (s : State) : Prop :=
  ∀ p, (s.pump p).history.length ≤ s.settings.startsPerHour

/-- No trouble count is above 15 (R60). -/
def Troubles (s : State) : Prop := ∀ p, (s.pump p).trouble ≤ maxTrouble

/-- A flood gate channel is in CLOSING only while its barrier interlock holds (R131). -/
def Interlocked (s : State) : Prop :=
  operating s = true → ∀ c, gateKind s c = .floodgate → (s.gate c).state = .closing →
    interlock s c = true

/-- At site stage 3 or 4 no channel is in OPENING, and no HELD channel has direction OPEN; the
low-stage time is absent at stage 2 or more (R134, R136, R139). -/
def NoOpening (s : State) : Prop :=
  operating s = true →
    (3 ≤ s.stage.site → ∀ c, (s.gate c).state ≠ .opening ∧
      ¬((s.gate c).state = .held ∧ (s.gate c).direction = some .open_)) ∧
    (2 ≤ s.stage.site → s.gates.lowStageAt = none)

/-- A drive is on only in CLOSING and OPENING, and it is the drive of that direction (R129); a channel in
CLOSING or SUSPENDED has direction CLOSE, and one in OPENING direction OPEN (R128). -/
def Drives (s : State) : Prop :=
  ∀ c, (match (s.gate c).drive with
    | none => True
    | some .close => (s.gate c).state = .closing
    | some .open_ => (s.gate c).state = .opening) ∧
    ((s.gate c).state = .closing ∨ (s.gate c).state = .suspended →
      (s.gate c).direction = some .close) ∧
    ((s.gate c).state = .opening → (s.gate c).direction = some .open_)

/-- The site stage is never below the local stage, nor below M, and never above 4, and neither a level
stage nor a peer's stage that is held is above 4 (R23, R28). -/
def Stages (s : State) : Prop :=
  s.stage.localStage ≤ s.stage.maximum ∧ s.stage.maximum ≤ s.stage.site ∧ s.stage.site ≤ 4 ∧
    (∀ k ∈ s.stage.levelStage, k ≤ 4) ∧ (∀ e ∈ s.peers.table, e.stage.getD 0 ≤ 4)

/-- The shed offset is a multiple of 20 from 0 to 180 (R124). -/
def Offset (s : State) : Prop := s.supply.shedOffset ≤ maxOffset ∧ s.supply.shedOffset % shedStep = 0

/-- The five places hold at most five frames and at most four answers (R82). -/
def Queue (s : State) : Prop :=
  s.line.queue.length ≤ queuePlaces ∧ answersHeld s ≤ answerPlaces

/-- The frames that wait, the report's place first. -/
def waitingFrames (s : State) : List Entry := s.line.report.toList ++ s.line.queue

/-- The report's place holds status reports, withdrawn by nobody, and the queue none, each frame has its own place in the order
of placing, and at most one is marked as on the line, none where the station is not sending; not said
of clock fallback, where the line is let go (R76, R82, R84, R179). -/
def OneOnLine (s : State) : Prop :=
  s.mode ≠ .clockFallback →
    (∀ e ∈ s.line.report, e.kind = .statusReport ∧ e.withdraw = false) ∧
    (∀ e ∈ s.line.queue, e.kind ≠ .statusReport) ∧
    ((waitingFrames s).map (·.order)).Nodup ∧ (∀ e ∈ waitingFrames s, e.order < s.line.placed) ∧
    (waitingFrames s).countP (·.onLine) ≤ (if s.line.sending = none then 0 else 1)

/-- Each waiting frame has its own number in the order of placing, below the count of those placed; the
numbers rise with the moments of placing, none of which lies ahead; and the first attempt of one frame
at most has begun (R82). -/
def PlacedInOrder (s : State) : Prop :=
  ((waitingFrames s).map (·.order)).Nodup ∧
    (∀ e ∈ waitingFrames s, e.order < s.line.placed ∧ e.placedAt ≤ s.now) ∧
    (∀ a ∈ waitingFrames s, ∀ b ∈ waitingFrames s, a.order < b.order → a.placedAt ≤ b.placedAt) ∧
    (waitingFrames s).countP (·.sequence.isSome) ≤ 1

/-- An attempt is on the line only in ON-LINE with no LISTEN window (R69, R87). -/
def Silent (s : State) : Prop :=
  s.line.sending ≠ none → lineRuns s = true ∧ s.line.state = .onLine ∧ s.line.window = .closed

/-- The committed load is the sum of its three parts (R109). -/
def Load (s : State) : Prop := operating s = true → s.supply.load = committedLoad s

/-- The headroom is the one that R111 gives for the budget mode in force, which is the one the line
state and the window choose. -/
def Headroom (s : State) : Prop :=
  operating s = true → s.supply.headroom = headroomOf s ∧ s.supply.mode = budgetModeOf s

/-- Every dimming output shows its circuit's applied duty, and the lighting part of the load is its
load (R153 to R155). -/
def Lighting (s : State) : Prop :=
  operating s = true → s.lights.duty = dutiesOf s ∧ s.lights.load = lightingLoad s.settings s.lights.duty

/-- The sign outputs show the scene of the running program's entry, and the program is that of the site
stage (R161, R165). -/
def Signs (s : State) : Prop :=
  operating s = true → s.signs.stage = s.stage.site ∧
    match sceneAt s.settings s.signs.stage s.signs.entry with
    | some sc => s.signs.output = sc.modes.map (signDrive s.signs.firstHalf)
    | none => True

/-- The peer table holds each station at most once, in rising order, and never the own number, and
holds none before the straps are read; the reservation list holds at most one entry for each sender
(R93, R103, R108, R177). -/
def Peers (s : State) : Prop :=
  (s.peers.table.map (·.station)).Pairwise (· < ·) ∧
    (strapFault s = false → ∀ e ∈ s.peers.table, e.station ≠ s.startup.number) ∧
    (s.peers.reservations.map (·.sender)).Nodup ∧
    (s.mode = .held ∨ s.mode = .oscillator → s.peers.table = [])

/-! ## What a command may reach beyond its own effect

A change of load, of headroom or of the start candidate is handed on inside the same event (R109, R111):
it may place or withdraw frames, start a pump, shed lighting and open a gate. The conditions below
say what that reaches and what it leaves alone; `m` is the state with the command's own changes. -/

/-- From `m` to `t` nothing has changed but what handing on may change: the trim and the speed
reference, pump records, the queue with its drop counter and the change-pending flag, the supply
block's load, headroom, intent, start and shed timers, the channel records, the dimming outputs with
their load, a restart that waits for a displaced answer, and the count of free values. -/
def HandedOn (m t : State) : Prop :=
  t = { m with
    stage := { m.stage with trim := t.stage.trim, speedReference := t.stage.speedReference }
    pumps := { m.pumps with pump := t.pumps.pump }
    line := { m.line with
      report := t.line.report
      queue := t.line.queue
      placed := t.line.placed
      changePending := t.line.changePending
      counters := { m.line.counters with queueDrops := t.line.counters.queueDrops } }
    supply := { t.supply with
      mode := m.supply.mode
      lastIntent := m.supply.lastIntent
      entryWait := m.supply.entryWait
      deferrals := m.supply.deferrals
      lastShed := m.supply.lastShed }
    gates := { m.gates with channel := t.gates.channel }
    lights := { m.lights with duty := t.lights.duty, load := t.lights.load }
    tool := { m.tool with restart := t.tool.restart }
    free := t.free }

/-- A pump record as a start grant leaves it (R49). -/
def granted (now : Nat) (r : Pump) : Pump :=
  { r with
    state := .starting
    waitingSince := none
    history := r.history ++ [now]
    attemptFrom := some now
    settling := false }

/-- Every pump record is as in `m`, but for a waiting pump that a start grant has taken (R49). -/
def PumpsHeld (m t : State) : Prop :=
  ∀ p, t.pump p = m.pump p ∨
    ((m.pump p).state = .waiting ∧ t.pump p = granted m.now (m.pump p))

/-- A channel record is as in `m` unless some channel stood where an opening begins (R138). -/
def GatesHeld (m t : State) : Prop :=
  (∀ c, (m.gate c).state ≠ .closed ∧ (m.gate c).state ≠ .unknown) → t.gates = m.gates

/-- The dimming outputs and their load are as in `m` while the shed offset is (R153, R154). -/
def LightsHeld (m t : State) : Prop :=
  t.supply.shedOffset = m.supply.shedOffset → t.lights = m.lights

/-- Only what handing on may change has changed, and pumps, channels and lights only as it changes
them. -/
def Handed (m t : State) : Prop :=
  HandedOn m t ∧ PumpsHeld m t ∧ GatesHeld m t ∧ LightsHeld m t

/-! ## Pump records as events leave them -/

/-- A pump record in another state, with no start in progress and every timer of the old state stopped;
its history, trouble count, last outcome and lockout cause stand (R45). -/
def leftIn (st : PumpState) (r : Pump) : Pump :=
  { r with
    state := st
    attempt := none
    waitingSince := none
    attemptFrom := none
    settling := false
    retryUntil := none
    failedAt := none
    runOnUntil := none
    restUntil := none
    overRun := 0 }

/-- The trouble count one higher, at most 15 (R60). -/
def troubled (r : Pump) : Pump := { r with trouble := min 15 (r.trouble + 1) }

/-- A pump that enters WAITING at `now` with an attempt number (R43, R47, R54). -/
def waitingAt (now attempt : Nat) (r : Pump) : Pump :=
  { leftIn .waiting r with attempt := some attempt, waitingSince := some now }

/-- A pump whose attempt has FAILED at `now` (R53). -/
def failedAt (now : Nat) (r : Pump) : Pump :=
  if r.attempt = some 3 then
    { leftIn .lockedOut (troubled r) with lockout := some .start, outcome := .failed }
  else
    { leftIn .retryWait (troubled r) with
      attempt := r.attempt, retryUntil := some (now + 10000000), failedAt := some now }

/-- A pump that enters RESTING at `now` (R59). -/
def restingAt (now rest : Nat) (r : Pump) : Pump :=
  { leftIn .resting r with restUntil := some (now + rest * 1000000) }

/-- A pump that has settled at `now`, GOOD or SLOW, with its outcome by R55 and its overcurrent run
begun (R52, R57). -/
def runningAt (c : Settings) (now : Nat) (good : Bool) (code : Option Nat) (r : Pump) : Pump :=
  let r' := if good then r else troubled r
  { leftIn .running r' with
    startedAt := some now
    outcome :=
      if good = true ∧ r.attempt = some 1 then .clean
      else if r'.trouble < c.troubleThreshold then .recovered
      else .recoveredOver
    overRun := if ∃ v ∈ code, c.tripCode ≤ v then 1 else 0 }

/-- The record of a fitted pump whose selector takes a stable position at `now` in normal operation
(R40, R45 to R47). -/
def selectedAt (s : State) (now : Nat) (p : Pump) (position : Position) : Pump :=
  let r := { p with selector := some position }
  let r' := if r.state = .disabled then { leftIn .off r with lockout := none } else r
  match position with
  | .off => leftIn .disabled r
  | .auto => r'
  | .hand =>
    if r'.state = .off ∧ r'.history.length < s.settings.startsPerHour ∧ s.line.window = .closed ∧
        lowWet s = true then waitingAt now 1 r'
    else if r'.state = .runOn then { r' with state := .running, runOnUntil := none }
    else r'

/-- The state with the record of pump `p` replaced, at the clock `now`. -/
def withPump (now : Nat) (p : Fin 4) (r : Pump) (s : State) : State :=
  { s with now := now, pumps := { s.pumps with pump := s.pumps.pump.set p r } }

/-- The duty order with `p` moved to its tail (R42). -/
def tailed (p : Fin 4) (duty : List (Fin 4)) : List (Fin 4) :=
  if p ∈ duty then duty.filter (fun q => decide (q ≠ p)) ++ [p] else duty

/-- The state with pump `p` in RESTING at the tail of the duty order, its record `r` before (R42,
R59). -/
def withResting (now : Nat) (p : Fin 4) (r : Pump) (s : State) : State :=
  { s with
    now := now
    pumps := ⟨s.pumps.pump.set p (restingAt now s.settings.restTime r), tailed p s.pumps.duty⟩ }

/-! ## Dry-run protection, demand and trim (R32 to R37, R43, R44, R62) -/

/-- A pump record as dry-run protection leaves it at `now`, its rest timer running for `rest` (R62). -/
def driedAt (now rest : Nat) (r : Pump) : Pump :=
  match r.state with
  | .starting | .running | .runOn => restingAt now rest r
  | .waiting | .retryWait => leftIn .off r
  | _ => r

/-- A pump that dry-run protection sends to RESTING. -/
def drawing (s : State) (p : Fin 4) : Bool :=
  decide ((s.pump p).state = .starting ∨ (s.pump p).state = .running ∨ (s.pump p).state = .runOn)

/-- The pumps of `r` go to the tail of the duty order, the others keep their order (R42, R62). -/
def DutyTailed (r : Fin 4 → Bool) (old new : List (Fin 4)) : Prop :=
  new.filter (fun p => !r p) = old.filter (fun p => !r p) ∧
    new = new.filter (fun p => !r p) ++ new.filter r

/-- Dry-run protection has acted on every pump at the clock of `t` (R62). -/
def Dried (s t : State) : Prop :=
  (∀ p, t.pump p = driedAt t.now s.settings.restTime (s.pump p)) ∧
    DutyTailed (drawing s) s.pumps.duty t.pumps.duty ∧ ∀ p, contactor t p = false

/-- The run feedback of pump `p` with record `r` has been stably OPEN for 1 s at the moment `v`, no
change of it waiting to be handed over (R51, R57). -/
abbrev OpenForOneSecond (inputs : Inputs) (p : Fin 4) (v : Nat) (r : Pump) : Prop :=
  (inputs.feedback.get p).stable = some .opened ∧ (inputs.feedback.get p).waiting = [] ∧
    ∃ o ∈ r.openSince, o + 1000000 ≤ v

/-- The pumps at a scan end in normal operation, on the codes it delivered: the overcurrent run of a
turning pump goes on or restarts, an attempt in its settle phase settles GOOD or SLOW, a waiting pump
may have its grant, and any other stands; with the low float not WET no pump is left energised, waiting
or in retry (R49, R51, R52, R57, R62). -/
def PumpsScanned (s t : State) : Prop :=
  let v := t.now
  let ts := s.settings.settleTime * 1000000
  if lowWet s = true then
    t.pumps.duty = s.pumps.duty ∧ ∀ p,
      let r := s.pump p
      let high := ∃ c ∈ t.meas.current.get p, s.settings.tripCode ≤ c
      match r.state with
      | .running | .runOn => t.pump p = { r with overRun := if high then min 100 (r.overRun + 1) else 0 }
      | .starting =>
        if r.settling = true ∧ ¬ OpenForOneSecond t.inputs p v r ∧
            (∃ u ∈ r.attemptFrom, v ≤ u + 2 * ts) ∧
            ¬ (∃ c ∈ t.meas.current.get p, s.settings.settleCode < c) then
          t.pump p = runningAt s.settings v
            (decide (∃ u ∈ r.attemptFrom, v ≤ u + ts ∨
              (s.settings.settleTime = 2 ∧ v < u + 2020000))) (t.meas.current.get p) r
        else t.pump p = r
      | .waiting => t.pump p = r ∨ t.pump p = granted v r
      | _ => t.pump p = r
  else
    DutyTailed (drawing s) s.pumps.duty t.pumps.duty ∧ ∀ p,
      match (s.pump p).state with
      | .starting | .running | .runOn =>
        (t.pump p).state = .resting ∧
          (t.pump p).restUntil = some (v + s.settings.restTime * 1000000)
      | _ => t.pump p = driedAt v s.settings.restTime (s.pump p)

/-- How many pumps are in one of these states. -/
def pumpsIn (states : List PumpState) (s : State) : Nat :=
  ([0, 1, 2, 3] : List (Fin 4)).countP fun p => decide ((s.pump p).state ∈ states)

/-- A pump in OFF that is eligible (R32). -/
def Eligible (s : State) (p : Fin 4) : Prop :=
  (s.pump p).state = .off ∧
    ((s.pump p).selector = some .auto ∨ (s.pump p).selector = some .hand) ∧
    (s.pump p).history.length < s.settings.startsPerHour

/-- n_running (R32). -/
def nRunning (s : State) : Nat := pumpsIn [.running, .runOn, .starting] s

/-- n_avail (R32). -/
def nAvailable (s : State) : Nat :=
  pumpsIn [.running, .runOn, .starting, .waiting, .retryWait] s +
    ([0, 1, 2, 3] : List (Fin 4)).countP fun p => decide ((s.pump p).state = .off ∧
      ((s.pump p).selector = some .auto ∨ (s.pump p).selector = some .hand) ∧
      (s.pump p).history.length < s.settings.startsPerHour)

/-- n_req on the pumps of `q`, with the level, the inflow, the local stage and the floats as they stand
there (R33 to R35). -/
def demandAt (q : State) : Nat :=
  let flow := (q.meas.inflow + q.settings.ratedFlow - 1) / q.settings.ratedFlow
  let k := q.stage.localStage
  if q.line.window ≠ .closed ∨ q.settings.sumpFitted = false then 0
  else match q.meas.level with
  | some l =>
    if 3 ≤ k then nAvailable q
    else if l < q.settings.t0 then 0
    else if k = 0 then min (nRunning q) (max flow 1)
    else min (max flow k) (nAvailable q)
  | none =>
    if lowWet q = true then if highWet q = true then nAvailable q else nRunning q else 0

/-- Each HAND pump is handled by its state at a level update: called from OFF, brought back from RUN-ON
(R47). -/
def HandsHandled (q u : State) : Prop :=
  u = { q with pumps := { q.pumps with pump := u.pumps.pump } } ∧ ∀ p,
    let r := q.pump p
    u.pump p =
      if r.selector = some .hand ∧ r.state = .off ∧
          r.history.length < q.settings.startsPerHour ∧ q.line.window = .closed ∧
          lowWet q = true then waitingAt q.now 1 r
      else if r.selector = some .hand ∧ r.state = .runOn then
        { r with state := .running, runOnUntil := none }
      else r

/-- One pump added where w is below n_req: the RUN-ON pump started latest returns to RUNNING, or
without one the first eligible pump in duty order waits, outside the LISTEN window and with the low
float WET (R43). -/
def AddedOne (u x : State) : Prop :=
  (∃ p, (u.pump p).state = .runOn ∧
    (∀ q, (u.pump q).state = .runOn →
      (u.pump q).startedAt.getD 0 ≤ (u.pump p).startedAt.getD 0) ∧
    x = withPump u.now p { u.pump p with state := .running, runOnUntil := none } u) ∨
  ((∀ q, (u.pump q).state ≠ .runOn) ∧ u.line.window = .closed ∧ lowWet u = true ∧
    ∃ p before after, u.pumps.duty = before ++ p :: after ∧ Eligible u p ∧
      (∀ q ∈ before, ¬ Eligible u q) ∧ x = withPump u.now p (waitingAt u.now 1 (u.pump p)) u) ∨
  ((∀ q, (u.pump q).state ≠ .runOn) ∧
    (u.line.window ≠ .closed ∨ lowWet u = false ∨ ∀ q ∈ u.pumps.duty, ¬ Eligible u q) ∧ x = u)

/-- A pump that demand may take out of this state: its selector is not at HAND (R44). -/
def Removable (st : PumpState) (u : State) (p : Fin 4) : Prop :=
  (u.pump p).state = st ∧ (u.pump p).selector ≠ some .hand

/-- One pump removed where w is above n_req: the newest in WAITING, the later in duty order of two, to
OFF, else the one in RETRY-WAIT that failed latest to OFF, else the one in RUNNING started earliest to
RUN-ON, and with no run-on time to RESTING (R44, R58). -/
def RemovedOne (u x : State) : Prop :=
  (∃ p before after, u.pumps.duty = before ++ p :: after ∧ Removable .waiting u p ∧
    (∀ q ∈ before, Removable .waiting u q →
      (u.pump q).waitingSince.getD 0 ≤ (u.pump p).waitingSince.getD 0) ∧
    (∀ q ∈ after, Removable .waiting u q →
      (u.pump q).waitingSince.getD 0 < (u.pump p).waitingSince.getD 0) ∧
    x = withPump u.now p (leftIn .off (u.pump p)) u) ∨
  ((∀ q ∈ u.pumps.duty, ¬ Removable .waiting u q) ∧
    ((∃ p, Removable .retryWait u p ∧
      (∀ q, Removable .retryWait u q →
        (u.pump q).failedAt.getD 0 ≤ (u.pump p).failedAt.getD 0) ∧
      x = withPump u.now p (leftIn .off (u.pump p)) u) ∨
    ((∀ q, ¬ Removable .retryWait u q) ∧
      ((∃ p, Removable .running u p ∧
        (∀ q, Removable .running u q →
          (u.pump p).startedAt.getD 0 ≤ (u.pump q).startedAt.getD 0) ∧
        x = if u.settings.runOnTime = 0 then withResting u.now p (u.pump p) u
          else withPump u.now p { u.pump p with
            state := .runOn, runOnUntil := some (u.now + u.settings.runOnTime * 1000000) } u) ∨
      ((∀ q, ¬ Removable .running u q) ∧ x = u)))))

/-- w: the pumps in RUNNING, STARTING, WAITING or RETRY-WAIT (R43). -/
def wanting (u : State) : Nat := pumpsIn [.running, .starting, .waiting, .retryWait] u

/-- Pumps are added one at a time while w is below n_req, or removed while it is above, at most `n` of
them (R43, R44). -/
def Adjusted : Nat → State → State → Prop
  | 0, u, v => v = u
  | n + 1, u, v =>
    if wanting u < u.stage.wanted then ∃ x, AddedOne u x ∧ Adjusted n x v
    else if u.stage.wanted < wanting u then ∃ x, RemovedOne u x ∧ Adjusted n x v
    else v = u

/-- The trim speed and the speed reference after a level update in normal operation, for the pumps and
the inflow of `t` (R36, R37). -/
def Trimmed (t : State) : Prop :=
  let k := pumpsIn [.running, .runOn] t
  let qr := t.settings.ratedFlow
  (t.settings.variableTrim = true →
    t.stage.trim = (if k = 0 ∨ t.meas.inflowValid = false then 100
      else max t.settings.minSpeed
        (min 100 ((100 * (t.meas.inflow - (k - 1) * qr) + qr - 1) / qr))) ∧
    t.stage.speedReference = if nRunning t = 0 then 0 else t.stage.trim * 255 / 100) ∧
  (t.settings.variableTrim = false → t.stage.speedReference = 0)

/-! ## What the commands of one kind leave and bring -/

/-- What no event of the water, the pumps, the gates or the supply reaches: the clock of `m`, the mode,
the start-up record, the peer view, the waiting commands, the memory port, the line controller's
states, timers and receiver, and the budget mode with its waits. -/
def OutsideKept (m t : State) : Prop :=
  t = { t with
    now := m.now
    mode := m.mode
    startup := m.startup
    peers := m.peers
    pending := m.pending
    tool := { t.tool with write := m.tool.write, port := m.tool.port }
    line := { m.line with
      report := t.line.report
      queue := t.line.queue
      placed := t.line.placed
      changePending := t.line.changePending
      counters := { m.line.counters with queueDrops := t.line.counters.queueDrops } }
    supply := { t.supply with
      mode := m.supply.mode
      lastIntent := m.supply.lastIntent
      entryWait := m.supply.entryWait
      deferrals := m.supply.deferrals
      lastShed := m.supply.lastShed } }

/-- The seven values are the codes of the scan (R1). -/
def Delivered (sc : Scan) (m : Meas) : Prop :=
  m.codeA = some sc.loopA.toNat ∧ m.codeB = some sc.loopB.toNat ∧
    m.current = ⟨some sc.current.p0.toNat, some sc.current.p1.toNat, some sc.current.p2.toNat,
      some sc.current.p3.toNat⟩ ∧ m.luminance = some sc.luminance.toNat

/-- The converter's state and runs follow the reference code of the scan (R2). -/
def ConverterJudged (sc : Scan) (old new : Meas) : Prop :=
  if 2000 ≤ sc.reference.toNat ∧ sc.reference.toNat ≤ 2096 then
    if old.faulted = false then new.faulted = false ∧ new.badRun = 0 ∧ Delivered sc new
    else if 49 ≤ old.goodRun then new.faulted = false ∧ Delivered sc new
    else new.faulted = true ∧ new.goodRun = old.goodRun + 1
  else if old.faulted = true then new.faulted = true ∧ new.goodRun = 0
  else if 2 ≤ old.badRun then
    new.faulted = true ∧ new.goodRun = 0 ∧ new.codeA = none ∧ new.codeB = none ∧
      new.current = ⟨none, none, none, none⟩ ∧ new.luminance = none
  else new.faulted = false ∧ new.badRun = old.badRun + 1 ∧ Delivered sc new

/-- The code of a loop in a scan (R1). -/
def loopCode (l : LoopId) (sc : Scan) : Nat :=
  match l with
  | .loopA => sc.loopA.toNat
  | .loopB => sc.loopB.toNat

/-- The loop of a channel. -/
def loopAt (m : Meas) (l : LoopId) : Loop :=
  match l with
  | .loopA => m.loopA
  | .loopB => m.loopB

/-- A loop's sample of code `c`: a run of three LOW or HIGH samples faults it and empties its average,
in NORMAL an IN-RANGE code joins the last eight, and the fiftieth in a row returns it to NORMAL (R3 to
R6). -/
def LoopSampled (c : Nat) (old new : Loop) : Prop :=
  if c < 480 then
    new = ⟨if 2 ≤ old.lowRun then .opened else old.fault, old.lowRun + 1, 0, 0,
      if 2 ≤ old.lowRun ∧ old.fault ≠ .opened then [] else old.average⟩
  else if 3520 < c then
    new = ⟨if 2 ≤ old.highRun then .over else old.fault, 0, old.highRun + 1, 0,
      if 2 ≤ old.highRun ∧ old.fault ≠ .over then [] else old.average⟩
  else if old.fault = .normal then
    new = ⟨.normal, 0, 0, old.recovery,
      (if 8 ≤ old.average.length then old.average.tail else old.average) ++ [c]⟩
  else if 49 ≤ old.recovery then new = ⟨.normal, 0, 0, 0, [c]⟩
  else new = ⟨old.fault, 0, 0, old.recovery + 1, old.average⟩

/-- The loops at a scan end: each takes its sample where the converter is GOOD and the loops are
evaluated, is emptied with its fault state kept where the converter enters FAULTED, and stands
otherwise (R2 to R6, R18, R19). -/
def LoopsScanned (sc : Scan) (s t : State) : Prop :=
  ∀ l, if t.meas.faulted = false ∧ (s.settings.sumpFitted = true ∨ s.mode = .configFallback) then
      LoopSampled (loopCode l sc) (loopAt s.meas l) (loopAt t.meas l)
    else if t.meas.faulted = true ∧ s.meas.faulted = false then
      loopAt t.meas l = ⟨(loopAt s.meas l).fault, 0, 0, 0, []⟩
    else loopAt t.meas l = loopAt s.meas l

/-- One sample `v` of a filter: equal to the stable state it ends the count, a new value is the
candidate with count 1, and the fifth equal sample makes the candidate stable, a change that waits
for its owner (R10). -/
def FilterSampled {α : Type} (v : α) (old new : Machine.Filter α) : Prop :=
  (old.stable = some v → new = { old with count := 0 }) ∧
    (old.stable ≠ some v → old.candidate ≠ some v →
      new = { old with candidate := some v, count := 1 }) ∧
    (old.stable ≠ some v → old.candidate = some v →
      new = if old.count < 4 then { old with count := old.count + 1 }
        else { old with stable := some v, count := 0, waiting := old.waiting ++ [v] })

/-- A filter whose owner has received the change to `v`, the oldest that waited (R10). -/
def filterTaken {α : Type} (v : α) (f : Machine.Filter α) : Machine.Filter α :=
  { f with given := some v, waiting := f.waiting.tail }

/-- One sample of a key whose return to INACTIVE is no event: of a key of which only the press is one,
and of the hold key while it was not ACTIVE (R10; log entry 2). -/
def KeySampled (pressOnly : Prop) (v : Switch) (old new : Machine.Filter Switch) : Prop :=
  ∃ f, FilterSampled v old f ∧
    ((f.waiting.head? = some .inactive ∧ (pressOnly ∨ f.given ≠ some .active)) →
      new = filterTaken .inactive f) ∧
    (¬ (f.waiting.head? = some .inactive ∧ (pressOnly ∨ f.given ≠ some .active)) → new = f)

/-- The position that a selector's two pins give (R11). -/
def positionOf (auto hand : Bool) : Position :=
  if auto = true ∧ hand = false then .auto else if auto = false ∧ hand = true then .hand else .off

/-- One sample of every digital input, of the floats where they are filtered; the chatter watches stand
(R10, R11, R18). -/
def InputsSampled (floats : Prop) (p : Pins) (old new : Inputs) : Prop :=
  (floats → FilterSampled p.lowFloat old.lowFloat new.lowFloat ∧
      FilterSampled p.highFloat old.highFloat new.highFloat) ∧
    (¬ floats → new.lowFloat = old.lowFloat ∧ new.highFloat = old.highFloat) ∧
    FilterSampled p.probe old.probe new.probe ∧
    (∀ i, FilterSampled (positionOf (p.selectorAuto.get i) (p.selectorHand.get i))
        (old.selector.get i) (new.selector.get i) ∧
      FilterSampled (p.feedback.get i) (old.feedback.get i) (new.feedback.get i)) ∧
    (∀ c, FilterSampled (p.gate.get c).openLimit (old.gate.get c).openLimit
        (new.gate.get c).openLimit ∧
      FilterSampled (p.gate.get c).closedLimit (old.gate.get c).closedLimit
        (new.gate.get c).closedLimit ∧
      FilterSampled (p.gate.get c).obstruction (old.gate.get c).obstruction
        (new.gate.get c).obstruction) ∧
    KeySampled False p.holdKey old.holdKey new.holdKey ∧
    FilterSampled p.forceCloseKey old.forceCloseKey new.forceCloseKey ∧
    KeySampled True p.reopenKey old.reopenKey new.reopenKey ∧
    KeySampled True p.panelResetKey old.panelResetKey new.panelResetKey ∧
    FilterSampled p.dayNight old.dayNight new.dayNight ∧
    FilterSampled p.supplyMode old.supplyMode new.supplyMode ∧
    new.lowChatter = old.lowChatter ∧ new.highChatter = old.highChatter ∧
    new.probeChatter = old.probeChatter

/-- The floats are filtered: at a sump station, and without a trusted image (R18, R19). -/
def FloatsSampled (s : State) : Prop :=
  s.settings.sumpFitted = true ∨
    (s.startup.imageStatus ≠ some .valid ∧ s.startup.imageStatus ≠ some .clamped)

/-- The entrance step and its runs at a scan end in normal operation: an unset step takes the highest
step in use whose threshold the code reaches, a set one keeps its runs by the code, and without a code
both runs are absent (R151, R152). -/
def EntranceScanned (s t : State) : Prop :=
  match t.meas.luminance, s.lights.step with
  | none, k => t.lights.step = k ∧ t.lights.upRun = none ∧ t.lights.downRun = none
  | some c, none =>
    t.lights.upRun = none ∧ t.lights.downRun = none ∧ t.lights.duty = dutiesOf t ∧
      ∃ k, t.lights.step = some k ∧ k ≤ s.lights.steps - 1 ∧
        (k = 0 ∨ stepThreshold s.settings k ≤ c) ∧
        ∀ j, k < j → j < s.lights.steps → c < stepThreshold s.settings j
  | some c, some k =>
    t.lights.step = some k ∧
      t.lights.upRun = (if k + 1 < s.lights.steps ∧ stepThreshold s.settings (k + 1) ≤ c
        then some (s.lights.upRun.getD t.now) else none) ∧
      t.lights.downRun = (if 0 < k ∧ c + s.settings.luminanceHysteresis < stepThreshold s.settings k
        then some (s.lights.downRun.getD t.now) else none)

/-- A scan end from `s` to `t`: counted, judged and sampled, with the level's own values as they were,
and beyond the pump records, the duty order and the entrance step only what handing on may change
(R1, R2). -/
def ScanTaken (dt : Nat) (sc : Scan) (pins : Pins) (s t : State) : Prop :=
  ConverterJudged sc s.meas t.meas ∧
    t.meas = { t.meas with
      scanCount := s.meas.scanCount + 1
      lastScan := some (s.now + dt)
      sampleFrom := some (s.now + dt)
      levelDue := decide ((s.meas.scanCount + 1) % 8 = 0)
      rateTimer := s.meas.rateTimer.map (· - 1)
      level := s.meas.level
      source := s.meas.source
      disagreeRun := s.meas.disagreeRun
      disagree := s.meas.disagree
      rate := s.meas.rate
      rateValid := s.meas.rateValid
      levelPrev := s.meas.levelPrev
      outflow := s.meas.outflow
      inflow := s.meas.inflow
      inflowValid := s.meas.inflowValid } ∧
    LoopsScanned sc s t ∧ InputsSampled (FloatsSampled s) pins s.inputs t.inputs ∧
    (s.mode = .operating → EntranceScanned s t ∧ PumpsScanned s t) ∧
    (s.mode ≠ .operating → t = { s with now := s.now + dt, meas := t.meas, inputs := t.inputs }) ∧
    HandedOn { s with
      now := s.now + dt
      meas := t.meas
      inputs := t.inputs
      pumps := { s.pumps with duty := t.pumps.duty }
      lights := { s.lights with
        step := t.lights.step, upRun := t.lights.upRun, downRun := t.lights.downRun } } t

/-- Level and source by the table of R8; without the sump there is no level and the source is NOT
FITTED (R18). -/
def LevelFormed (s t : State) : Prop :=
  if s.mode = .operating ∧ s.settings.sumpFitted = false then
    t.meas.level = none ∧ t.meas.source = .notFitted
  else match loopLevel s s.meas.loopA, loopLevel s s.meas.loopB with
  | some a, some b =>
    if a ≤ b + s.settings.agreeBand ∧ b ≤ a + s.settings.agreeBand then
      t.meas.level = some ((a + b) / 2) ∧ t.meas.source = .average
    else t.meas.level = some (max a b) ∧ t.meas.source = .higher
  | some a, none => t.meas.level = some a ∧ t.meas.source = .loopA
  | none, some b => t.meas.level = some b ∧ t.meas.source = .loopB
  | none, none => t.meas.level = none ∧ t.meas.source = .lost

/-- The disagreement run and DISAGREE at a level update at `now` (R9). -/
def DisagreementKept (now : Nat) (s t : State) : Prop :=
  match t.meas.source with
  | .higher => t.meas.disagreeRun = some (s.meas.disagreeRun.getD now) ∧
      (t.meas.disagree = true ↔
        s.meas.disagree = true ∨ s.meas.disagreeRun.getD now + 30000000 ≤ now)
  | .average => t.meas.disagreeRun = none ∧ t.meas.disagree = false
  | _ => t.meas.disagreeRun = none ∧ t.meas.disagree = s.meas.disagree

/-- The rate state at a level update (R14, R15). -/
def RateKept (s t : State) : Prop :=
  match t.meas.level with
  | none => t.meas.rateValid = false ∧ t.meas.levelPrev = none ∧ t.meas.rateTimer = none ∧
      t.meas.rate = s.meas.rate
  | some l =>
    t.meas.rateValid = true ∧
    if s.meas.rateValid = false then
      t.meas.rate = 0 ∧ t.meas.levelPrev = some l ∧ t.meas.rateTimer = some 500
    else if s.meas.rateTimer = some 0 then
      ∀ p ∈ s.meas.levelPrev,
        t.meas.rate = Int.tdiv (3 * s.meas.rate + max (-2000) (min 2000 ((l : Int) - p))) 4 ∧
        t.meas.levelPrev = some l ∧ t.meas.rateTimer = some 500
    else t.meas.rate = s.meas.rate ∧ t.meas.levelPrev = s.meas.levelPrev ∧
      t.meas.rateTimer = s.meas.rateTimer

/-- Q_out and Q_in at a level update of a sump station in normal operation, Q_out from the pumps and the
trim in force before it (R16, R17); elsewhere the inflow is invalid (R18, R19). -/
def InflowKept (s t : State) : Prop :=
  if s.mode ≠ .operating ∨ s.settings.sumpFitted = false then
    t.meas.inflowValid = false ∧ t.meas.inflow = s.meas.inflow ∧ t.meas.outflow = s.meas.outflow
  else t.meas.outflow = outflowOf s ∧
  match t.meas.level with
  | some _ => t.meas.inflowValid = true ∧
      (t.meas.inflow : Int) = max 0 (min 65535
        ((outflowOf s : Int) + Int.tdiv (s.settings.area * t.meas.rate) 10))
  | none => t.meas.inflowValid = false ∧ t.meas.inflow = s.meas.inflow

/-- A level update or a change of the site stage leaves the inputs, the loops and the outside. -/
def StageHanded (m t : State) : Prop :=
  OutsideKept m t ∧ t.inputs = m.inputs ∧ t.fallback = m.fallback ∧
    t.meas.loopA = m.meas.loopA ∧ t.meas.loopB = m.meas.loopB ∧
    t.meas.scanCount = m.meas.scanCount ∧ t.meas.lastScan = m.meas.lastScan ∧
    t.meas.sampleFrom = m.meas.sampleFrom

/-- The local stage by the level stage, the floats and the probe: the table of R25 without a level
stage, the raises of R24 over one, the probe alone without the sump (R24 to R26). -/
def LocalFormed (t : State) : Prop :=
  let raised := highWet t = true ∨ probeWet t = true
  t.stage.localStage =
    if t.mode = .operating ∧ t.settings.sumpFitted = false then
      if probeWet t = true then 3 else 0
    else match t.mode, t.stage.levelStage with
    | .operating, some k => if raised then max k 3 else k
    | _, _ => if raised then 3 else if lowWet t = true then 1 else 0

/-- M is the greatest of the local stage and the stages the peer table holds (R28). -/
def MaximumFormed (t : State) : Prop :=
  t.stage.localStage ≤ t.stage.maximum ∧
    (∀ e ∈ t.peers.table, e.stage.getD 0 ≤ t.stage.maximum) ∧
    (t.stage.maximum = t.stage.localStage ∨
      ∃ e ∈ t.peers.table, e.stage = some t.stage.maximum)

/-- The site stage and its descent hold at an event of the moment `t.now`: where M is recomputed, the
site stage rises to it and the hold is cancelled, or the hold starts or goes on below it; elsewhere
all three stand (R28, R29). -/
def SiteFollows (recomputed : Prop) (s t : State) : Prop :=
  (recomputed → MaximumFormed t ∧
    if s.stage.site ≤ t.stage.maximum then
      t.stage.site = t.stage.maximum ∧ t.stage.hold = none
    else t.stage.site = s.stage.site ∧
      t.stage.hold = some (s.stage.hold.getD (t.now + s.settings.descentHold * 1000000))) ∧
  (¬ recomputed → t.stage.maximum = s.stage.maximum ∧ t.stage.site = s.stage.site ∧
    t.stage.hold = s.stage.hold)

/-- A change of stable state at a chatter watch, `counted` unless it is the move out of UNKNOWN
(R12). -/
def ChangeJoined (now : Nat) (counted : Bool) (old new : Chatter) : Prop :=
  if old.chatter = true then new = { old with quietUntil := some (now + 60000000) }
  else if counted = false then new = old
  else
    let kept := old.changes.filter (fun t => decide (now < t + 10000000)) ++ [now]
    new = if 8 ≤ kept.length then ⟨true, [], some (now + 60000000)⟩ else { old with changes := kept }

/-! ## Floats and probe (R10, R12, R13, R22, R180) -/

/-- The input is watched for chatter: a float always, the probe where a trusted image has it fitted
(R12, R18, R19). -/
def Watched (s : State) (w : WaterInput) : Prop :=
  w = .probe → s.settings.probeFitted = true ∧
    (s.startup.imageStatus = some .valid ∨ s.startup.imageStatus = some .clamped)

/-- The watch of an input whose owner receives a change at `now` (R12). -/
def ChangeWatched (now : Nat) (w : WaterInput) (s : State) (new : Chatter) : Prop :=
  (Watched s w → ChangeJoined now (waterFilter s w).given.isSome (waterChatter s w) new) ∧
    (¬ Watched s w → new = waterChatter s w)

/-- The reported states of the two floats and the probe are the same in both states. -/
def ReportedSame (s t : State) : Prop :=
  lowReported t = lowReported s ∧ highReported t = highReported s ∧
    probeReported t = probeReported s

/-- The one evaluation of the local stage that the changes of a scan end bring: with the level update
that falls on it, or after the last of them (R22). -/
def Evaluated (s t : State) : Prop :=
  let owed := (¬ ReportedSame s t ∨ s.stage.evaluationWaits = true) ∧ s.meas.levelDue = false
  let more := ∃ w, Watched t w ∧ ((waterFilter t w).waiting ≠ [] ∨
    ((waterChatter t w).chatter = true ∧ ∃ u ∈ (waterChatter t w).quietUntil, u ≤ t.now))
  (¬ owed → t.stage.localStage = s.stage.localStage ∧
      t.stage.evaluationWaits = s.stage.evaluationWaits) ∧
    (owed → more → t.stage.localStage = s.stage.localStage ∧ t.stage.evaluationWaits = true) ∧
    (owed → ¬ more → LocalFormed t ∧ t.stage.evaluationWaits = false)

/-- The fallback logic's run at a change of the floats: it ends with the low float not WET, and begins
with the high float becoming WET (R180). -/
def RunFollows (s t : State) : Prop :=
  t.fallback =
    if s.mode = .operating then s.fallback
    else if lowReported t ≠ lowReported s ∧ lowWet t = false then
      ⟨none, ⟨false, false, false, false⟩⟩
    else if highReported t ≠ highReported s ∧ highWet t = true ∧ s.fallback.run = none then
      ⟨some t.now, ⟨false, false, false, false⟩⟩
    else s.fallback

/-- A change of a float or the probe has been handed on from `s` with its own changes `m`: dry-run
protection where the low float has left WET, the evaluation of the local stage, the site stage after
it, and the fallback logic's run (R13, R22, R28, R29, R62, R180). -/
def WaterFollowed (s m t : State) : Prop :=
  OutsideKept m t ∧ t.inputs = m.inputs ∧ t.meas = s.meas ∧ Evaluated s t ∧ RunFollows s t ∧
    (s.mode ≠ .clockFallback → SiteFollows (t.stage.localStage ≠ s.stage.localStage) s t) ∧
    (s.mode = .operating → lowReported t ≠ lowReported s → lowWet t = false → Dried s t) ∧
    (s.mode ≠ .operating → t.pumps = s.pumps)

/-- The fallback logic's run after the changes of both floats that fall on a level update at `now`: the low
float's change first, which may end the run, then the high float's, which may begin one (R180; log
entries 21 and 54). -/
def RunFollowsBoth (now : Nat) (s m : State) : Prop :=
  let left := if lowReported m ≠ lowReported s ∧ lowWet m = false then
      ⟨none, ⟨false, false, false, false⟩⟩
    else s.fallback
  m.fallback =
    if highReported m ≠ highReported s ∧ highWet m = true ∧ left.run = none then
      ⟨some now, ⟨false, false, false, false⟩⟩
    else left

/-- The changes of floats and probe that a level update at `now` takes with it, from `s` to `m`: of each
input the oldest change that waits, or the end of its CHATTER, dry-run protection where the low float
has left WET, and in fallback the fallback logic's run (R10, R12, R13, R22, R62, R180). -/
def WaterAtUpdate (now : Nat) (s m : State) : Prop :=
  (∀ w, ∃ c : Chatter,
    (match (waterFilter s w).waiting.head? with
      | some v => waterFilter m w = filterTaken v (waterFilter s w) ∧ ChangeWatched now w s c
      | none => waterFilter m w = waterFilter s w ∧ c = waterChatter s w) ∧
    waterChatter m w =
      if c.chatter = true ∧ ∃ u ∈ c.quietUntil, u ≤ now then ⟨false, [], none⟩ else c) ∧
  HandedOn { s with
    now := now
    inputs := { s.inputs with
      lowFloat := m.inputs.lowFloat, highFloat := m.inputs.highFloat, probe := m.inputs.probe
      lowChatter := m.inputs.lowChatter, highChatter := m.inputs.highChatter
      probeChatter := m.inputs.probeChatter }
    pumps := { s.pumps with duty := m.pumps.duty }
    fallback := m.fallback } m ∧
  (if s.mode = .operating ∧ lowReported m ≠ lowReported s ∧ lowWet m = false then Dried s m
    else m = { s with now := now, inputs := m.inputs, fallback := m.fallback }) ∧
  (s.mode = .operating → m.fallback = s.fallback) ∧
  (s.mode ≠ .operating → RunFollowsBoth now s m)

/-- Demand, pump control and trim at a level update in normal operation, from the pumps of `m`: on the
pumps `q` as the stages leave them, which are those of `m` but for a start grant that a rise of the
site stage hands on, n_req is formed, HAND pumps are handled and pumps added or removed, and what is
handed on may grant a start (R33 to R37, R43, R44, R47). -/
def DemandRun (m t : State) : Prop :=
  ∃ q u v : State, q = { t with pumps := q.pumps } ∧ PumpsHeld m q ∧
    q.pumps.duty = m.pumps.duty ∧ (t.stage.site = m.stage.site → q.pumps = m.pumps) ∧
    t.stage.wanted = demandAt q ∧ HandsHandled q u ∧ Adjusted 4 u v ∧ PumpsHeld v t ∧
    t.pumps.duty = v.pumps.duty ∧ Trimmed t

/-! ## The levels on the line (R69, R70) -/

/-- The level of bit `i` of a frame's bytes back to back: of each byte a low start bit, eight data bits
with the least significant first, a high stop bit (R70). -/
def levelOfBit (bytes : List Byte) (i : Nat) : Option Bool :=
  bytes[i / 10]?.map fun b =>
    if i % 10 = 0 then false else if i % 10 = 9 then true else b.getLsbD (i % 10 - 1)

/-! ## Faults (R181, R183) -/

/-- CHATTER on a float or the probe (R12). -/
def AnyChatter (s : State) : Prop :=
  s.inputs.lowChatter.chatter = true ∨ s.inputs.highChatter.chatter = true ∨
    s.inputs.probeChatter.chatter = true

/-- The level is LOST at a sump station (R20). -/
def LevelLost (s : State) : Prop := s.settings.sumpFitted = true ∧ s.meas.source = .lost

/-- The straps were read as 0 or 15 (R177). -/
def StrapFault (s : State) : Prop :=
  s.startup.strapsRead = true ∧ (s.startup.number = 0 ∨ s.startup.number = 15)

/-- The image status is INVALID or ABSENT (R178). -/
def ImageBad (s : State) : Prop :=
  s.startup.imageStatus = some .invalid ∨ s.startup.imageStatus = some .absent

/-- The faults that drop the station-fault relay (R181). -/
def FaultPresent (s : State) : Prop :=
  s.mode = .configFallback ∨ s.mode = .clockFallback ∨ StrapFault s ∨ ImageBad s ∨
    s.line.state = .lineFault ∨ s.line.state = .clash ∨ s.meas.faulted = true ∨ LevelLost s ∨
    (∃ p, (s.pump p).state = .lockedOut) ∨ (∃ c, (s.gate c).state = .fault) ∨ AnyChatter s ∨
    s.meas.disagree = true

/-! ## Frames that arrive, and answers -/

/-- A whole frame can arrive now: the line controller runs, the station is not sending, and no other
frame waits to be judged (R70, R72, R91). -/
def LineHears (s : State) : Prop :=
  (s.mode = .operating ∨ s.mode = .configFallback) ∧ s.line.sending = none ∧
    frameHeld s.line.receiver = none

/-- A tool frame that arrives now is handed on (R73). -/
def ToolReady (s : State) : Prop :=
  LineHears s ∧ s.line.window = .closed ∧ (s.line.state = .onLine ∨ s.line.state = .lineFault)

/-- The state as a good frame finds it: counted, the idle count at 0, and a partial frame before it lost
as broken (R70, R72, R73). -/
def arrived (now : Nat) (s : State) : State :=
  { s with
    now := now
    line := { s.line with
      receiver := .hunting
      idleFrom := now
      counters := { s.line.counters with
        good := min 65535 (s.line.counters.good + 1)
        broken := if s.line.receiver = .hunting then s.line.counters.broken
          else min 65535 (s.line.counters.broken + 1) } } }

/-- An answer as it is placed (R82). -/
def answerEntry (payload : List Byte) (tag : AnswerTag) (m : State) : Entry :=
  { kind := .stationAnswer, placedAt := m.now, order := m.line.placed, attempts := 0
    sequence := none, payload := payload, onLine := false, withdraw := false, tag := tag }

/-- From `m` an answer that nothing waits for is placed, or counted as a queue drop where four answers or
five frames wait (R83). -/
def Answered (payload : List Byte) (m t : State) : Prop :=
  if answersHeld m < 4 ∧ m.line.queue.length < 5 then
    t = { m with line := { m.line with
      queue := m.line.queue ++ [answerEntry payload .plain m], placed := m.line.placed + 1 } }
  else
    t = { m with line := { m.line with counters := { m.line.counters with
      queueDrops := min 65535 (m.line.counters.queueDrops + 1) } } }

/-- An answer with this payload, placed at the clock of `t`, waits in the queue of `t` untried. -/
def AnswerWaits (payload : List Byte) (t : State) : Prop :=
  ∃ e ∈ t.line.queue, e.kind = .stationAnswer ∧ e.placedAt = t.now ∧ e.payload = payload ∧
    e.attempts = 0 ∧ e.sequence = none

/-! ## Layouts (R183 to R186) -/

/-- A number in two bytes, the high byte first (R182). -/
def twoBytes (n : Nat) : List Byte := [BitVec.ofNat 8 (n / 256), BitVec.ofNat 8 n]

/-- A number in one byte. -/
def oneByte (n : Nat) : Byte := BitVec.ofNat 8 n

/-- The code of an item: its place in its list of R184, counted from 0. -/
def codeIn {α : Type} [DecidableEq α] (names : List α) (a : α) : Byte := oneByte (names.idxOf a)

/-- Bit `i`, set where the condition holds. -/
def bitIf (i : Nat) (c : Bool) : Nat := if c then 2 ^ i else 0

/-- A field whose absent value is 0xFFFF (R185). -/
def twoOrAbsent (v : Option Nat) : List Byte := (v.map twoBytes).getD [0xFF, 0xFF]

/-- The codes of R184 from 0, in order. -/
def pumpStates : List PumpState :=
  [.notFitted, .disabled, .off, .waiting, .starting, .retryWait, .running, .runOn, .resting,
    .lockedOut]
/-- The selector's codes (R184). -/
def selectors : List (Option Position) := [none, some .off, some .auto, some .hand]
/-- The last outcome's codes (R184). -/
def outcomes : List StartOutcome := [.clean, .recovered, .recoveredOver, .failed]
/-- The lockout cause's codes (R184). -/
def lockouts : List (Option LockoutCause) := [none, some .start, some .trips]
/-- The gate state's codes (R184). -/
def gateStates : List GateState :=
  [.notFitted, .unknown, .opened, .closing, .closed, .opening, .suspended, .held, .fault]
/-- The gate direction's codes (R184). -/
def directions : List (Option Direction) := [none, some .close, some .open_]
/-- The gate fault cause's codes (R184). -/
def gateFaults : List (Option GateFault) :=
  [none, some .travel, some .limitConflict, some .drift]
/-- The gate kind's codes (R184). -/
def gateKinds : List GateKind := [.none, .barrier, .floodgate]
/-- The circuit kind's codes (R184). -/
def circuitKinds : List CircuitKind := [.unused, .emergency, .entrance, .interior]
/-- The reset cause's codes (R184). -/
def resetCauses : List ResetCause := [.powerOn, .brownOut, .resetPin, .restart, .clock]
/-- The image status's codes (R184). -/
def imageStatuses : List ImageStatus := [.valid, .clamped, .invalid, .absent]
/-- The budget mode's codes (R184). -/
def budgetModes : List BudgetMode := [.none, .peer, .island]
/-- The input state's codes (R184). -/
def waters : List (Option Water) := [none, some .dry, some .wet]
/-- The day/night input's codes (R184). -/
def dayNights : List (Option DayNight) := [none, some .day, some .night]
/-- The loop fault state's codes (R183). -/
def loopFaultStates : List LoopFault := [.normal, .opened, .over]

/-- The fault flags of a report, bit 0 first (R183). -/
def faultBits (s : State) : Nat :=
  bitIf 0 s.meas.faulted + 2 * loopFaultStates.idxOf s.meas.loopA.fault +
    8 * loopFaultStates.idxOf s.meas.loopB.fault + bitIf 5 s.meas.disagree +
    bitIf 6 (s.inputs.lowChatter.chatter || s.inputs.highChatter.chatter ||
      s.inputs.probeChatter.chatter) +
    bitIf 7 (decide (s.settings.sumpFitted = true ∧ s.meas.source = .lost)) +
    bitIf 8 (decide (∃ p, (s.pump p).state = .lockedOut)) +
    bitIf 9 (decide (∃ c, (s.gate c).state = .fault)) +
    bitIf 10 (decide (s.startup.strapsRead = true ∧
      (s.startup.number = 0 ∨ s.startup.number = 15))) +
    bitIf 11 (decide (s.startup.imageStatus = some .invalid ∨
      s.startup.imageStatus = some .absent))

/-- The payload of a STATUS REPORT, 12 bytes (R86, R183). -/
def reportLayout (s : State) : List Byte :=
  let fallback := decide (s.mode = .configFallback)
  [oneByte s.stage.localStage, oneByte s.stage.site] ++
    twoBytes (if fallback then 0 else s.supply.load) ++
    [oneByte (pumpsIn [.running, .runOn] s),
      oneByte ((worstPump s).1 * 16 + (worstPump s).2),
      codeIn gateStates (s.gate 0).state, codeIn gateStates (s.gate 1).state,
      oneByte s.supply.shedOffset,
      oneByte (bitIf 0 (decide (s.inputs.supplyMode.stable ≠ some .mains)) + bitIf 1 fallback +
        bitIf 2 s.line.island + bitIf 3 fallback)] ++
    twoBytes (faultBits s)

/-- The station summary, 27 bytes (R185). -/
def summaryLayout (s : State) : List Byte :=
  let h := if s.mode = .configFallback then 0 else s.supply.headroom % 4294967296
  reportLayout s ++
    [codeIn resetCauses s.startup.cause, ((s.startup.imageStatus).map (codeIn imageStatuses)).getD 0,
      match s.line.state with
      | .listen => 0
      | .onLine => if s.line.island then 2 else 1
      | .lineFault => 3
      | .clash => 4] ++
    twoBytes (h.toNat / 65536) ++ twoBytes h.toNat ++
    [codeIn budgetModes s.supply.mode,
      match s.supply.intent with
      | .none => 0
      | .queued _ _ => 1
      | .window _ _ => 2] ++
    twoBytes s.supply.deferrals ++
    match s.supply.lastShed with
    | some c => [oneByte c.sender] ++ twoBytes c.shortfall ++ [oneByte c.urgency]
    | none => [0, 0xFF, 0xFF, 0xFF]

/-- The pump record, 7 bytes (R185). -/
def pumpLayout (s : State) (p : Fin 4) : List Byte :=
  let r := s.pump p
  [codeIn pumpStates r.state, codeIn selectors r.selector, oneByte r.trouble,
    codeIn outcomes r.outcome,
    if s.settings.troubleThreshold ≤ r.trouble then 1 else 0, codeIn lockouts r.lockout,
    oneByte r.history.length]

/-- The gate record, 7 bytes, the travel used with what the drive has run since it came on (R128,
R185). -/
def gateLayout (s : State) (c : Fin 2) : List Byte :=
  let g := s.gate c
  let used := if g.drive = none then g.used else g.used + (s.now - g.driveFrom)
  [codeIn gateKinds (s.settings.gate.get c).kind, codeIn gateStates g.state,
    codeIn directions g.direction] ++ twoBytes (used / 100000) ++
    [codeIn gateFaults g.cause, oneByte (bitIf 0 g.driftAt.isSome + bitIf 1 g.reopen)]

/-- The lighting record, 28 bytes; in configuration fallback without kinds and targets, at duty 200
(R158, R185). -/
def lightingLayout (s : State) : List Byte :=
  let fallback := s.mode = .configFallback
  let one := fun (k : CircuitSettings) (d : Nat) =>
    if fallback then [(0xFF : Byte), 0xFF, 200]
    else [codeIn circuitKinds k.kind, ((target s k).map oneByte).getD 0xFF, oneByte d]
  let k := s.settings.circuit
  let d := s.lights.duty
  one k.e0 d.e0 ++ one k.e1 d.e1 ++ one k.e2 d.e2 ++ one k.e3 d.e3 ++ one k.e4 d.e4 ++
    one k.e5 d.e5 ++ one k.e6 d.e6 ++ one k.e7 d.e7 ++
    [if fallback then 0 else oneByte s.supply.shedOffset,
      if fallback then 0xFF else (s.lights.step.map oneByte).getD 0xFF,
      oneByte s.lights.steps, codeIn dayNights s.inputs.dayNight.stable]

/-- The peer view record of station `n`, 18 bytes: a field whose held bit is clear is 0, and the times
are in whole seconds and whole milliseconds (R107, R185; log entry 44). -/
def peerLayout (s : State) (n : Nat) : List Byte :=
  let e := s.peers.table.find? fun e => decide (e.station = n)
  let r := s.peers.reservations.find? fun r => decide (r.sender = n)
  let stage := e.bind (·.stage)
  let claim := e.bind (·.claim)
  let c := e.bind (·.report)
  [oneByte (bitIf 0 e.isSome + bitIf 1 (e.any (·.stale)) + bitIf 2 stage.isSome +
      bitIf 3 claim.isSome + bitIf 4 (e.any (·.fallback)) + bitIf 5 c.isSome + bitIf 6 r.isSome),
    oneByte ((e.map fun x => (s.now - x.lastFrame) / 1000000).getD 0),
    oneByte (stage.getD 0)] ++
    twoBytes (claim.getD 0) ++ twoBytes ((e.map (·.gaps)).getD 0) ++
    [oneByte ((c.map (·.site)).getD 0), oneByte ((c.map (·.running)).getD 0),
      if c.any (·.generator) then 1 else 0] ++
    twoBytes ((c.map (·.faults.toNat)).getD 0) ++
    [oneByte ((r.map (·.pump)).getD 0)] ++ twoBytes ((r.map (·.inrush)).getD 0) ++
    [oneByte ((r.map (·.urgency)).getD 0)] ++
    twoBytes ((r.map fun x =>
      (x.arrival + s.settings.spacing * 1000000 - s.now) / 1000).getD 0)

/-- The line counters record, 18 bytes (R90, R185). -/
def countersLayout (c : Counters) : List Byte :=
  ([c.good, c.broken, c.unknownKinds, c.collisions, c.sendFailures, c.queueDrops, c.sequenceGaps,
    c.discardedQueries, c.ownNumber].map twoBytes).flatten

/-- The measurement record, 19 bytes (R20, R185). -/
def measurementLayout (s : State) : List Byte :=
  let mean := fun (l : Loop) => if l.average.length = 8 then some (l.average.sum / 8) else none
  let shown := fun (f : Machine.Filter Water) (c : Chatter) =>
    [codeIn waters (if c.chatter then some .wet else f.stable), codeIn waters f.stable]
  let rate := (s.meas.rate % 65536).toNat
  twoOrAbsent (mean s.meas.loopA) ++ twoOrAbsent (mean s.meas.loopB) ++
    twoOrAbsent (loopLevel s s.meas.loopA) ++ twoOrAbsent (loopLevel s s.meas.loopB) ++
    [codeIn loopFaultStates s.meas.loopA.fault, codeIn loopFaultStates s.meas.loopB.fault] ++
    shown s.inputs.lowFloat s.inputs.lowChatter ++ shown s.inputs.highFloat s.inputs.highChatter ++
    [oneByte (bitIf 0 s.inputs.lowChatter.chatter + bitIf 1 s.inputs.highChatter.chatter +
      bitIf 2 s.inputs.probeChatter.chatter + bitIf 3 s.meas.disagree +
      bitIf 4 s.meas.rateValid + bitIf 5 s.meas.inflowValid)] ++
    twoBytes rate ++ twoBytes s.meas.inflow

/-- The number in `size` bytes of an image from an offset, the high byte first (R182). -/
def fieldAt (image : List Byte) (offset size : Nat) : Nat :=
  ((image.drop offset).take size).foldl (fun n b => n * 256 + b.toNat) 0

/-- A numeric field of the image: its offset, its size, its range, and the setting it gives (R186). -/
structure ImageField where
  offset : Nat
  size : Nat
  low : Nat
  high : Nat
  value : Settings → Nat

/-- The numeric fields of the image, but for the thresholds, P_in, the scenes and the programs
(R186). -/
def imageFields : List ImageField :=
  [⟨4, 1, 0, 4, (·.pumpCount)⟩, ⟨5, 2, 500, 10000, (·.span)⟩, ⟨7, 2, 1, 400, (·.area)⟩,
    ⟨9, 2, 50, 500, (·.agreeBand)⟩, ⟨21, 2, 20, 500, (·.hysteresis)⟩,
    ⟨23, 2, 1, 2000, (·.ratedFlow)⟩, ⟨25, 2, 10, 5000, (·.pRun)⟩,
    ⟨29, 1, 2, 20, (·.settleTime)⟩, ⟨30, 2, 0, 300, (·.runOnTime)⟩,
    ⟨32, 2, 10, 600, (·.restTime)⟩, ⟨34, 1, 4, 20, (·.startsPerHour)⟩,
    ⟨35, 1, 1, 7, (·.troubleThreshold)⟩, ⟨36, 1, 40, 90, (·.minSpeed)⟩,
    ⟨37, 2, 0, 4095, (·.noLoadCode)⟩, ⟨39, 2, 0, 4095, (·.settleCode)⟩,
    ⟨41, 2, 0, 4095, (·.tripCode)⟩, ⟨43, 1, 2, 30, (·.spacing)⟩,
    ⟨44, 2, 0, 50000, (·.budgetGenerator)⟩, ⟨46, 2, 0, 50000, (·.budgetMains)⟩,
    ⟨48, 1, 0, 100, (·.islandShare)⟩, ⟨49, 2, 0, 5000, (·.restoreMargin)⟩,
    ⟨51, 2, 30, 900, (·.descentHold)⟩] ++
  (([0, 1] : List (Fin 2)).map fun c =>
    [⟨54 + 4 * c.val, 1, 2, 180, fun x => (x.gate.get c).travelLimit⟩,
      ⟨55 + 4 * c.val, 2, 0, 20000, fun x => (x.gate.get c).motorLoad⟩]).flatten ++
  ((List.range 8).map fun i =>
    let circuit := fun c : Settings => c.circuit.toList.getD i ⟨.unused, 0, 0, 0, 0⟩
    [⟨62 + 6 * i, 2, 0, 5000, fun c => (circuit c).rated⟩,
      ⟨64 + 6 * i, 1, 0, 200, fun c => (circuit c).floor⟩,
      ⟨65 + 6 * i, 1, 0, 200, fun c => (circuit c).day⟩,
      ⟨66 + 6 * i, 1, 0, 200, fun c => (circuit c).night⟩]).flatten ++
  [⟨109, 1, 0, 200, (·.emergencyLevel)⟩, ⟨110, 1, 0, 200, (·.evacuationLevel)⟩] ++
  ((List.range 8).map fun k =>
    let step := fun c : Settings => c.step.toList.getD k ⟨0, 0⟩
    [⟨111 + 3 * k, 2, 0, 4095, fun c => (step c).threshold⟩,
      ⟨113 + 3 * k, 1, 0, 200, fun c => (step c).duty⟩]).flatten ++
  [⟨135, 2, 0, 1000, (·.luminanceHysteresis)⟩] ++
  (List.range 16).map fun i => ⟨139 + 3 * i, 1, 1, 120, fun c => ((c.scene[i]?).map (·.dwell)).getD 1⟩

/-- A value brought to the nearer limit of a range (R178). -/
def broughtTo (low high n : Nat) : Nat := if n < low then low else if high < n then high else n

/-- The settings that an image gives: each field brought to its range, the thresholds to the span, P_in
to P_run or more, unknown kinds taken as NONE and UNUSED, the options by bit, each scene's modes two
bits an output, each program as long as its length brought to 1 to 16 (R178, R186). -/
def SettingsGiven (image : List Byte) (c : Settings) : Prop :=
  let option := fun i => (fieldAt image 3 1).testBit i
  let modes : List SignMode := [.off, .on, .flash, .flashInverted]
  (∀ f ∈ imageFields, f.value c = broughtTo f.low f.high (fieldAt image f.offset f.size)) ∧
    c.sumpFitted = option 0 ∧ c.probeFitted = option 1 ∧ c.variableTrim = option 2 ∧
    c.pairing = option 3 ∧
    [c.t0, c.t1, c.t2, c.t3, c.t4] = ([11, 13, 15, 17, 19] : List Nat).map
      (fun i => broughtTo 0 c.span (fieldAt image i 2)) ∧
    c.pIn = broughtTo c.pRun 20000 (fieldAt image 27 2) ∧
    (∀ g : Fin 2, (c.gate.get g).kind = gateKinds.getD (fieldAt image (53 + 4 * g.val) 1) .none) ∧
    c.circuit.toList.map (·.kind) = (List.range 8).map
      (fun i => circuitKinds.getD (fieldAt image (61 + 6 * i) 1) .unused) ∧
    c.scene.map (fun x => x.modes.toList) = (List.range 16).map (fun i =>
      (List.range 8).map fun k =>
        modes.getD (fieldAt image (137 + 3 * i) 2 / 4 ^ k % 4) .off) ∧
    c.program = (List.range 5).map (fun j =>
      (List.range (broughtTo 1 16 (fieldAt image (185 + 9 * j) 1))).map fun k =>
        fieldAt image (186 + 9 * j + k / 2) 1 / 16 ^ (k % 2) % 16)

/-- No field of an image lies outside its range and no kind is unknown (R178, R186). -/
def FieldsInRange (image : List Byte) (c : Settings) : Prop :=
  let within := fun low high i size =>
    low ≤ fieldAt image i size ∧ fieldAt image i size ≤ high
  (∀ f ∈ imageFields, within f.low f.high f.offset f.size) ∧
    (∀ i ∈ ([11, 13, 15, 17, 19] : List Nat), within 0 c.span i 2) ∧
    within c.pRun 20000 27 2 ∧
    (∀ g ∈ List.range 2, fieldAt image (53 + 4 * g) 1 ≤ 2) ∧
    (∀ i ∈ List.range 8, fieldAt image (61 + 6 * i) 1 ≤ 3) ∧
    ∀ j ∈ List.range 5, within 1 16 (185 + 9 * j) 1

/-! ## The line and the peer view as events leave them -/

/-- The quiet interval of an entry at station `n`, in bit times: that of its class, and 8 × n more once an
attempt of it counts (R76, R78). -/
def waitBits (e : Entry) (n : Nat) : Nat :=
  (match e.kind with
    | .stageCall => 10 + n
    | .startIntent | .shedCall => 30 + n
    | .statusReport | .stationAnswer => 50 + 2 * n) + if 0 < e.attempts then 8 * n else 0

/-- The class of a kind of frame, 1 the most urgent (R75). -/
def classOf (k : FrameKind) : Nat :=
  match k with
  | .stageCall => 1
  | .startIntent | .shedCall => 2
  | .statusReport | .stationAnswer => 3

/-- The frame that leads the queue: the one whose first attempt has begun, or, where none has, the one of
the most urgent class, of that class placed earliest, and of one moment the lower number (R82; log
entry 39). -/
def LeadsTheQueue (s : State) (e : Entry) : Prop :=
  e.sequence.isSome = true ∨
    ∀ x ∈ waitingFrames s, x.sequence = none ∧
      (x = e ∨ classOf e.kind < classOf x.kind ∨ (classOf e.kind = classOf x.kind ∧
        (e.placedAt < x.placedAt ∨ (e.placedAt = x.placedAt ∧ e.order < x.order))))

/-- A restart's waits after an answer with this tag has ended, SENT or NOT SENT (R174). -/
def answerOver (tag : AnswerTag) (r : Option RestartWait) : Option RestartWait :=
  match tag with
  | .plain => r
  | .restart => r.map fun w => { w with answer := false }
  | .write => r.map fun w => { w with write := false }

/-- The receiver after an attempt that has ended: it goes on from the own bytes that were whole on the
line, the delimiter first (R77). -/
def goesOnFrom (sent : Option (List Byte)) (wholeBytes : Nat) : Receiver :=
  if wholeBytes = 0 then .hunting
  else .assembling (((sent.getD []).drop 1).take (wholeBytes - 1)) false

/-- A peer's entry as the frame leaves it, before what its kind adds (R94, R95). -/
def heard (now : Nat) (sender : Nat) (seq : Byte) (old : Option Peer) : Peer :=
  match old with
  | none => ⟨sender, now, false, seq, 0, none, none, false, none⟩
  | some e => { e with
      lastFrame := now
      stale := false
      sequence := seq
      gaps := min 65535 (e.gaps + (seq - e.sequence - 1).toNat) }

/-- The frames a peer's frame shows to have been missed (R95). -/
def gapsIn (seq : Byte) (old : Option Peer) : Nat :=
  match old with
  | none => 0
  | some e => (seq - e.sequence - 1).toNat

/-- What every peer frame from station `sender` brings, `e` being its entry afterwards: it is counted with
the gaps it shows, its entry alone changes, the island timer returns to 0 and ISLAND ends, M is that
of the table, and clock, mode, settings, measurement, inputs, the memory port and the waiting
commands are otherwise as they were, and pump records but for a start grant (R74, R88, R94, R95,
R99). -/
def PeerHeard (now : Nat) (sender : Nat) (seq : Byte) (e : Peer) (s t : State) : Prop :=
  peerEntry t sender = some e ∧ (∀ n ∈ List.range 16, n ≠ sender → peerEntry t n = peerEntry s n) ∧
    t.line.counters.good = min 65535 (s.line.counters.good + 1) ∧
    t.line.counters.sequenceGaps =
      min 65535 (s.line.counters.sequenceGaps + gapsIn seq (peerEntry s sender)) ∧
    t.line.islandFrom = some now ∧ t.line.island = false ∧
    t.line.state = s.line.state ∧ t.line.window = s.line.window ∧ t.line.idleFrom = now ∧
    t.line.receiver = .hunting ∧ t.line.sending = none ∧ t.line.sequence = s.line.sequence ∧
    t.now = now ∧ t.mode = s.mode ∧ t.startup = s.startup ∧ t.fallback = s.fallback ∧
    t.meas = s.meas ∧ t.inputs = s.inputs ∧ t.tool.write = s.tool.write ∧
    t.tool.port = s.tool.port ∧ t.pending = s.pending ∧ t.peers.ownNumber = s.peers.ownNumber ∧
    t.stage.localStage = s.stage.localStage ∧ PumpsHeld { s with now := now } t

/-- What a change of the line state leaves from `m` (`s` at the new clock): clock, mode, settings,
measurement, inputs, fallback, signs, memory port, peer table, reports' start times, sequence number
and waiting commands as they were, pump records but for a start grant; and in normal operation the
budget mode is the one that line state and window give (R111). -/
def LineEventKept (s t m : State) : Prop :=
  t.now = m.now ∧ t.mode = s.mode ∧ t.startup = s.startup ∧ t.fallback = s.fallback ∧
    t.meas = s.meas ∧ t.inputs = s.inputs ∧ t.signs = s.signs ∧ t.tool.write = s.tool.write ∧
    t.peers = s.peers ∧ t.pending = s.pending ∧
    t.line.lastReportStart = s.line.lastReportStart ∧ t.line.periodicAt = s.line.periodicAt ∧
    t.line.sequence = s.line.sequence ∧ t.line.islandFrom = s.line.islandFrom ∧
    PumpsHeld m t ∧ (s.mode = .operating → t.supply.mode = budgetModeOf t)

/-- A pump record as the end of a LISTEN window leaves it: in normal operation a pump stranded in
RETRY-WAIT with room in its history is WAITING with its next attempt number (R54, R87; log entry
20). -/
def retryReleased (now : Nat) (s : State) (r : Pump) : Pump :=
  if s.mode = .operating ∧ r.state = .retryWait ∧ r.retryUntil = none ∧
      r.history.length < s.settings.startsPerHour
  then waitingAt now (r.attempt.getD 0 + 1) r
  else r

/-- What the aging of the peer view leaves from `m`: clock, mode, settings, measurement, inputs,
fallback, the memory port, the line's states and timers and the waiting commands as they were, and
pump records but for a start grant. -/
def PeerAgingKept (m t : State) : Prop :=
  OutsideKept { m with peers := t.peers } t ∧ t.meas = m.meas ∧ t.inputs = m.inputs ∧
    t.fallback = m.fallback ∧ t.stage.localStage = m.stage.localStage ∧ PumpsHeld m t

/-! ## Gate records as events leave them -/

/-- A reopen request is held only in CLOSED and UNKNOWN (R137). -/
def requestKept (r : Gate) : Gate :=
  { r with reopen := r.reopen && decide (r.state = .closed ∨ r.state = .unknown) }

/-- A channel that enters a state without a drive at `now`: the drive that was on drops and its travel is
added up (R128, R129). -/
def stoppedIn (st : GateState) (now : Nat) (r : Gate) : Gate :=
  requestKept { r with
    state := st
    used := if r.drive = none then r.used else r.used + (now - r.driveFrom)
    drive := none
    closeDropped := if r.drive = some .close then some now else r.closeDropped
    openDropped := if r.drive = some .open_ then some now else r.openDropped }

/-- The drive of direction `d` comes on at `now`, unless the other drive dropped within 500 ms
(R129). -/
def driven (d : Direction) (now : Nat) (r : Gate) : Gate :=
  if ∃ o ∈ (match d with | .close => r.openDropped | .open_ => r.closeDropped), now < o + 500000
  then requestKept r
  else requestKept { r with drive := some d, driveFrom := now }

/-- A travel goes on in direction `d` at `now`, its drive on after any dead time owed (R129). -/
def travelling (d : Direction) (now : Nat) (r : Gate) : Gate :=
  driven d now { r with
    state := match d with | .close => .closing | .open_ => .opening
    direction := some d }

/-- A closing begins at `now`: HELD under the hold key, SUSPENDED where the lane or the interlock forbids
it, CLOSING otherwise, with travel used 0 (R130, R131, R134, R139, R142). -/
def closeBegun (held forbidden : Bool) (now : Nat) (r : Gate) : Gate :=
  let r' := { stoppedIn .suspended now r with used := 0, direction := some .close }
  if held = true then { r' with state := .held }
  else if forbidden = true then r'
  else travelling .close now r'

/-- A travel toward the open limit begins at `now` with travel used 0 (R138, R142). -/
def openBegun (now : Nat) (r : Gate) : Gate :=
  travelling .open_ now { stoppedIn .opening now r with used := 0 }

/-- A channel stops at a limit, with no direction left (R132, R144). -/
def arrivedAt (st : GateState) (now : Nat) (r : Gate) : Gate :=
  { stoppedIn st now r with direction := none }

/-- A channel enters FAULT; its direction is kept (R140 to R142). -/
def faulted (cause : GateFault) (now : Nat) (r : Gate) : Gate :=
  { stoppedIn .fault now r with cause := some cause }

/-- From the record `r` channel `c` has stayed, or gone on as the closing rules and a given consent move
it in the same event: suspended without its interlock, resumed, a closing begun, or opened
(R130, R131, R133, R138). -/
def Followed (t : State) (c : Fin 2) (r : Gate) : Prop :=
  t.gate c = r ∨
  match r.state with
  | .closing => closingAllowed t c = false ∧ t.gate c = stoppedIn .suspended t.now r
  | .suspended => mayResume t c = true ∧ t.gate c = travelling .close t.now r
  | .opened => t.gate c = closeBegun (holdActive t) (obstructed t c || !closingAllowed t c) t.now r
  | .unknown => t.gate c =
        closeBegun (holdActive t) (obstructed t c || !closingAllowed t c) t.now r ∨
      t.gate c = openBegun t.now r
  | .closed => t.gate c = openBegun t.now r
  | _ => False

/-- No closing rule waits: a flood gate in CLOSING has its interlock, a SUSPENDED channel may not
resume, and no barrier stands OPEN or UNKNOWN at site stage 3 or 4, nor a flood gate that may begin its
closing (R130, R131, R133). -/
def ClosingsTried (t : State) : Prop :=
  ∀ c, ((t.gate c).state = .closing → closingAllowed t c = true) ∧
    ((t.gate c).state = .suspended → mayResume t c = false) ∧
    ((t.gate c).state = .opened ∨ (t.gate c).state = .unknown →
      (gateKind t c = .barrier → t.stage.site < 3) ∧
      (gateKind t c = .floodgate → floodgateCloses t c = false))

/-- A status report has been asked for: it is pending, or its marker waits untried (R85). -/
def ReportAsked (t : State) : Prop :=
  t.line.changePending = true ∨ ∃ e ∈ t.line.report, e.sequence = none

/-- The STAGE CALLs that wait. -/
def stageCalls (s : State) : List Entry := s.line.queue.filter fun e => decide (e.kind = .stageCall)

/-- A STAGE CALL as it is placed at `now`: no attempt of it has begun, and its one payload byte is the
local stage (R27, R82, R86). -/
def stageCallPlaced (now order stage : Nat) : Entry :=
  ⟨.stageCall, now, order, 0, none, [BitVec.ofNat 8 stage], false, false, .plain⟩

/-- The queue refuses what is handed to it: in LISTEN and CLASH, and while the window runs (R83, R87). -/
abbrev Refusing (s : State) : Prop :=
  s.line.window ≠ .closed ∨ s.line.state = .listen ∨ s.line.state = .clash

/-- An answer of the queue whose first attempt has not begun (R83). -/
abbrev Displaceable (s : State) (a : Entry) : Prop :=
  a ∈ s.line.queue ∧ a.kind = .stationAnswer ∧ a.sequence = none

/-- One STAGE CALL with the local stage of `t`, handed to the line controller with the queue of `s`: placed
where one of the five places is free; placed, with the answer placed earliest of those not in progress
dropped, where none is; refused where no answer may be displaced. A frame dropped or refused is counted
(R27, R83). -/
def StageCallHanded (s t : State) : Prop :=
  let joined := stageCalls t =
    stageCalls s ++ [stageCallPlaced t.now s.line.placed t.stage.localStage]
  let counted := min 65535 (s.line.counters.queueDrops + 1) ≤ t.line.counters.queueDrops
  if s.line.queue.length < 5 then joined
  else if ∃ a ∈ s.line.queue, Displaceable s a then
    joined ∧ counted ∧ ∀ a ∈ s.line.queue, Displaceable s a →
      (∀ x ∈ s.line.queue, Displaceable s x → a.order ≤ x.order) → a ∉ t.line.queue
  else stageCalls t = stageCalls s ∧ counted

/-- What a change of the local stage from `s` to `t` hands to the line controller: every change asks for a
report; a rise to 3 or 4 hands one STAGE CALL, and nothing else places one. Where dry-run protection
has acted in the same event, what it handed on stood in the queue before the call (R27, R85, R86). -/
def StageToldOn (s t : State) : Prop :=
  (t.stage.localStage ≠ s.stage.localStage → ReportAsked t) ∧
  if s.stage.localStage < t.stage.localStage ∧ 3 ≤ t.stage.localStage ∧ ¬ Refusing s then
    if s.mode = .operating ∧ lowReported t ≠ lowReported s ∧ lowWet t = false then
      (∃ e ∈ t.line.queue, stageCalls t = stageCalls s ++ [e] ∧
        e = stageCallPlaced t.now e.order t.stage.localStage) ∨
      (stageCalls t = stageCalls s ∧
        min 65535 (s.line.counters.queueDrops + 1) ≤ t.line.counters.queueDrops)
    else StageCallHanded s t
  else stageCalls t = stageCalls s

/-- A gate event from `m`, with `r` each channel's record after the event's own effect: the closing rules
and the openings have been tried, a change of state has asked for a report, the load handed on is the
one that stands, and beyond that only what handing on may change has changed (R85, R129, R138). -/
def GateEvent (m : State) (r : Fin 2 → Gate) (t : State) : Prop :=
  HandedOn m t ∧ PumpsHeld m t ∧ LightsHeld m t ∧ (∀ c, Followed t c (r c)) ∧ ClosingsTried t ∧
    ((∃ c, (m.gate c).state ≠ (t.gate c).state) → ReportAsked t) ∧
    t.supply.load = committedLoad t

/-- Only channel `c` has a new record of its own. -/
def onlyAt (s : State) (c : Fin 2) (g : Gate) : Fin 2 → Gate :=
  fun d => if d = c then g else s.gate d

/-! ## The supply block's starts -/

/-- Pump `p` has its start grant: it is in STARTING, the time of the last own start is this moment, and
its inrush is in the load (R49, R109, R117, R119). -/
def StartGranted (p : Fin 4) (m t : State) : Prop :=
  Handed (withPump m.now p (granted m.now (m.pump p)) m) t ∧ t.supply.lastStart = some m.now ∧
    t.supply.load = committedLoad t

/-- The shed offset has risen from its value in `m` by `n`, up to 180; a change has asked for a report and
set every duty, and only what handing on may change has changed (R120 to R122, R124). -/
def OffsetRaised (n : Nat) (m t : State) : Prop :=
  Handed m t ∧ t.supply.shedOffset = min 180 (m.supply.shedOffset + n) ∧
    (t.supply.shedOffset ≠ m.supply.shedOffset →
      ReportAsked t ∧ t.lights.duty = dutiesOf t)

/-- The state a reset leaves from `s` at `now`: every block at its value after reset, with the cause
recorded, the clock, the waiting commands and the count of free values kept, in reset still where
`held`, and otherwise with the oscillator start timer running (R176). -/
def resetLeaves (held : Bool) (cause : ResetCause) (now : Nat) (s : State) : State :=
  { State.reset with
    now := now
    mode := if held then .held else .oscillator
    startup := { State.reset.startup with
      cause := cause
      oscillatorUntil := if held then none else some (now + 20000) }
    line := { State.reset.line with idleFrom := now }
    free := s.free
    pending := s.pending }

end Sys2Proof.Safety
end

