-- ==== Sys2Proof/Certificates/Slice0/Obligations.lean ====
section
/-! DEFINITION. The statements for the provers: what the commands of each family do from every state and
with every operand that meets the hypotheses, and the laws that every step keeps. Each docstring says what
is stated; OBLIGATIONS.json names the rules or sections it comes from. -/

open Sys2Proof Sys2Proof.Machine Sys2Proof.Safety

/-- For every state s, command c and list rest: step of s with c :: rest waiting is exec of c on s
with rest waiting, and step of s with nothing waiting answers next s. How commands are queued is
the model's own frame (log entry 2). -/
def Obligations.StepTakesTheFrontCommand : Prop :=
  ∀ (s : State) (c : Instr) (rest : List Instr),
    step { s with pending := c :: rest } = exec c { s with pending := rest } ∧
      step { s with pending := [] } = .next { s with pending := [] }

/-- State.reset meets each of the eighteen conditions of Safety.lean: dry-run protection, one start
at a time, the bounds of the histories and trouble counts, the barrier interlock, the openings,
the drives, the stages, the shed offset, the queue, its one frame on the line, its order of
placing, the silence of the line, the load, the headroom, the lighting, the signs and the peer
view. -/
def Obligations.ResetStateMeetsEveryLaw : Prop :=
  DryRun State.reset ∧ OneStart State.reset ∧ Histories State.reset ∧ Troubles State.reset ∧
    Interlocked State.reset ∧ NoOpening State.reset ∧ Drives State.reset ∧ Stages State.reset ∧
    Offset State.reset ∧ Queue State.reset ∧ OneOnLine State.reset ∧
    PlacedInOrder State.reset ∧ Silent State.reset ∧ Load State.reset ∧
    Headroom State.reset ∧ Lighting State.reset ∧ Signs State.reset ∧ Peers State.reset

/-- For all states s and t: if no contactor of s is energised unless the low float reports WET in s,
and step s answers next t, then no contactor of t is energised unless the low float reports WET
in t. It covers normal operation and both fallbacks: contactor reads the pump states, or the
fallback logic's outputs. -/
def Obligations.EveryStepKeepsPumpsStoppedWithoutWater : Prop :=
  ∀ s t : State, DryRun s → step s = .next t → DryRun t

/-- For all states s and t with step s = next t: if at most one pump of s is in STARTING, so it is
in t; if every start history of s holds at most as many entries as the starts-per-hour limit, so
does every one of t; and if every trouble count of s is at most 15, so is every one of t. -/
def Obligations.EveryStepKeepsPumpStartsAndCountsBounded : Prop :=
  ∀ s t : State, step s = .next t →
    (OneStart s → OneStart t) ∧ (Histories s → Histories t) ∧ (Troubles s → Troubles t)

/-- For all states s and t with step s = next t: if in s, in normal operation, every flood gate
channel in CLOSING has its interlock (no paired barrier, or the barrier CLOSED, or the force-
close key ACTIVE), so it has in t; if in s, in normal operation, at site stage 3 or 4 no channel
is in OPENING and no HELD channel has direction OPEN, and at site stage 2 or more the low-stage
time is absent, the same holds of t, given the third law; and, the third, if in s, in whatever
mode, each channel's drive that is on is the CLOSE drive of a channel in CLOSING or the OPEN
drive of one in OPENING (so never both), and each channel in CLOSING or SUSPENDED has direction
CLOSE and in OPENING direction OPEN, the same holds of t. -/
def Obligations.EveryStepKeepsTheGateLaws : Prop :=
  ∀ s t : State, step s = .next t →
    (Interlocked s → Interlocked t) ∧ (Drives s → NoOpening s → NoOpening t) ∧
      (Drives s → Drives t)

/-- For all states s and t: if in s the local stage is at most M, M at most the site stage, the site
stage at most 4, the level stage if it is a number at most 4 and every peer entry's stage at
most 4, and step s answers next t, the same holds of t. So the site stage is never below the
local stage. -/
def Obligations.EveryStepKeepsTheStagesInOrder : Prop :=
  ∀ s t : State, Stages s → step s = .next t → Stages t

/-- For all states s and t with step s = next t: if the five places of s hold at most five frames,
at most four of them answers, so do those of t; if in s, outside clock fallback, the report's
place holds status reports, none under withdrawal, and the queue none, every waiting frame has
its own place in the order of placing, below the count of those placed, and one frame at most is
marked as on the line, none where the station is not sending, the same holds of t; if in s every
waiting frame has its own number below the count of those placed, the numbers rise with the
moments of placing, of which none lies ahead, and the first attempt of one frame at most has
begun, the same holds of t (the number, which orders frames of one moment, is log entry 39,
DESIGN CHOICE); and if the shed offset of s is a multiple of 20 and at most 180, so is that of
t. -/
def Obligations.EveryStepKeepsTheQueueAndTheOffsetInRange : Prop :=
  ∀ s t : State, step s = .next t →
    (Queue s → Queue t) ∧ (OneOnLine s → OneOnLine t) ∧ (PlacedInOrder s → PlacedInOrder t) ∧
      (Offset s → Offset t)

/-- For all states s and t: if in s an attempt on the line implies that the line controller runs,
the line state is ON-LINE and the LISTEN window is closed, and step s answers next t, the same
holds of t. -/
def Obligations.EveryStepKeepsTheLineSilentOffLine : Prop :=
  ∀ s t : State, Silent s → step s = .next t → Silent t

/-- For all states s and t: if in s, in normal operation, the committed load is the sum of the
pumps', the gates' and the lighting's parts (at most 65,535), and step s answers next t, the
same holds of t. -/
def Obligations.EveryStepKeepsTheLoadCommitted : Prop :=
  ∀ s t : State, Load s → step s = .next t → Load t

/-- For all states s and t: if in s, in normal operation, H is what the budget mode gives and the
budget mode is the one that the line state and the LISTEN window choose, the peer table of s is
well formed (each station once, in order, never the own number, none before the straps are read;
one reservation a sender), and step s answers next t, then H and the budget mode of t are those
of t in the same way. -/
def Obligations.EveryStepKeepsTheHeadroomCurrent : Prop :=
  ∀ s t : State, Peers s → Headroom s → step s = .next t → Headroom t

/-- For all states s and t: if in s, in normal operation, the eight outputs stand at the applied
duties of their circuits and the lighting part of the load is the one of those duties, and step
s answers next t, the same holds of t. -/
def Obligations.EveryStepKeepsTheLightsApplied : Prop :=
  ∀ s t : State, Lighting s → step s = .next t → Lighting t

/-- For all states s and t: if in s, in normal operation, the running program is the one of the site
stage and the outputs show the scene of its entry in the half of the flash clock, and step s
answers next t, the same holds of t. -/
def Obligations.EveryStepKeepsTheSignsOnTheirScene : Prop :=
  ∀ s t : State, Signs s → step s = .next t → Signs t

/-- For all states s and t: if in s the peer table holds rising station numbers and, unless the
straps are at fault, never the own number, and no entry in reset and before the straps are read,
and the reservation list holds at most one entry for each sender, and step s answers next t, the
same holds of t. -/
def Obligations.EveryStepKeepsThePeerViewWellFormed : Prop :=
  ∀ s t : State, Peers s → step s = .next t → Peers t

/-- In normal operation, for every state s and loop l that is valid with mean c: the loop level is
floor((c' − 640) × span ÷ 2560) for c' the mean clamped to 640 to 3200; it is at most span; it
is 0 for c ≤ 640 and span for c ≥ 3200. (R7.) -/
def Obligations.LoopLevelIsTheFloorOfItsClampedMean : Prop :=
  ∀ (s : State) (l : Loop) (c : Nat),
    s.mode = .operating → loopValid s l = true → loopMean l = some c →
    loopLevel s l = some ((max 640 (min 3200 c) - 640) * s.settings.span / 2560) ∧
      (∀ v ∈ loopLevel s l, v ≤ s.settings.span) ∧
      (c ≤ 640 → loopLevel s l = some 0) ∧
      (3200 ≤ c → loopLevel s l = some s.settings.span)

/-- In normal operation and in configuration fallback, once the 20 ms of the scan under way have
passed, SCAN_END answers a next state t: the scan-end count is one higher, a level update is due
at every eighth, converter and runs follow the reference code, the seven codes are this scan's
where it is then GOOD and invalid on entering FAULTED, each evaluated loop has taken its sample
(runs, OPEN and OVER from any state, the last eight NORMAL codes in its average, recovery at
fifty), and every input filter one sample (the fifth equal one makes a value stable; log entry
2). In normal operation with the low float WET the overcurrent run of each pump in RUNNING or
RUN-ON goes on up to 100 or restarts, an attempt in its settle phase not lost for 1 s, within 2
× t_s and with a code at or below the settle code or none is RUNNING, GOOD or SLOW, and every
other pump stands but for a start grant; with it not WET no pump is left energised, waiting or
in retry; and the entrance step is set at once to the highest step the code reaches, or its runs
begin, go on or end. Otherwise only what handing on may change has changed, and in fallback
nothing. How a row carries the time that has passed is the model's (log entry 1), and that the
loops are evaluated in configuration fallback whatever the sump is its DESIGN CHOICE (log entry
61). -/
def Obligations.ScanEndCountsJudgesAndSamples : Prop :=
  ∀ (s : State) (dt : Nat) (sc : Scan) (pins : Pins),
    s.mode = .operating ∨ s.mode = .configFallback →
    ∀ u ∈ s.meas.sampleFrom, u + 20000 ≤ s.now + dt →
    ∃ t, exec (.scanEnd dt sc pins) s = .next t ∧
      ScanTaken dt sc pins s t

/-- In normal operation and in configuration fallback, once the 20 ms of the scan under way have
passed: with the converter GOOD and a bad-reference run of 2 or more, CONVERTER_FAULT with a bad
scan answers a next state whose converter is FAULTED; with it FAULTED and a good-reference run
of 49 or more, CONVERTER_RECOVERY with a good scan answers one whose converter is GOOD with this
scan's codes. With the converter GOOD, a good scan and the loops evaluated (a sump station, or
configuration fallback, there whatever the sump by log entry 61, DESIGN CHOICE): LOOP_FAULT with
a loop not OPEN, a low run of 2 or more and a code below 480 answers a next state with that loop
in OPEN, recovery count 0 and an empty average, and with it not OVER, a high run of 2 or more
and a code above 3520 one in OVER likewise (from NORMAL or from the other fault); LOOP_RECOVERY
with a loop not NORMAL, a recovery count of 49 or more and a code of 480 to 3520 answers one
with it in NORMAL, its runs and recovery count 0 and that code alone in its average. Each is the
scan end of that scan too (log entry 5): ScanTaken holds of it. -/
def Obligations.ConverterAndLoopsFollowTheirRuns : Prop :=
  ∀ (s : State) (dt : Nat) (l : LoopId) (sc : Scan) (pins : Pins),
    s.mode = .operating ∨ s.mode = .configFallback →
    ∀ u ∈ s.meas.sampleFrom, u + 20000 ≤ s.now + dt →
    let good := 2000 ≤ sc.reference.toNat ∧ sc.reference.toNat ≤ 2096
    let loops := s.meas.faulted = false ∧ good ∧
      (s.settings.sumpFitted = true ∨ s.mode = .configFallback)
    let old := loopAt s.meas l
    (s.meas.faulted = false → 2 ≤ s.meas.badRun → ¬ good →
      ∃ t, exec (.converterFault dt sc pins) s = .next t ∧
        t.meas.faulted = true ∧ ScanTaken dt sc pins s t) ∧
    (s.meas.faulted = true → 49 ≤ s.meas.goodRun → good →
      ∃ t, exec (.converterRecovery dt sc pins) s = .next t ∧
        t.meas.faulted = false ∧ Delivered sc t.meas ∧ ScanTaken dt sc pins s t) ∧
    (loops → old.fault ≠ .opened → 2 ≤ old.lowRun → loopCode l sc < 480 →
      ∃ t, exec (.loopFault dt l sc pins) s = .next t ∧
        loopAt t.meas l = ⟨.opened, old.lowRun + 1, 0, 0, []⟩ ∧ ScanTaken dt sc pins s t) ∧
    (loops → old.fault ≠ .over → 2 ≤ old.highRun → 3520 < loopCode l sc →
      ∃ t, exec (.loopFault dt l sc pins) s = .next t ∧
        loopAt t.meas l = ⟨.over, 0, old.highRun + 1, 0, []⟩ ∧ ScanTaken dt sc pins s t) ∧
    (loops → old.fault ≠ .normal → 49 ≤ old.recovery → 480 ≤ loopCode l sc →
      loopCode l sc ≤ 3520 →
      ∃ t, exec (.loopRecovery dt l sc pins) s = .next t ∧
        loopAt t.meas l = ⟨.normal, 0, 0, 0, [loopCode l sc]⟩ ∧ ScanTaken dt sc pins s t)

/-- In normal operation and in configuration fallback with a level update due, LEVEL_UPDATE answers
a next state t. With it go, first, the oldest waiting change of each float and the probe and the
end of a CHATTER that has run out, with dry-run protection where the low float has left WET and
in fallback the fallback logic's run, which the low float's change may end and then the high
float's begin: the state m, which is s at the new clock where none waits. Then L and its source
follow from the two loop levels and the agree band, or are none and NOT FITTED without the sump
and none and LOST in fallback; the disagreement run and DISAGREE follow the source; the rate is
lost, restarted, computed where its timer stands at 0, or left; Q_out and Q_in follow, at a sump
station in normal operation; the level stage is the greatest that its threshold, or its
threshold less h, admits, and NONE without a level; the local stage is the one that the level
stage, the floats and the probe give, no evaluation waiting; and the site stage rises to M, or
its hold starts, goes on or is cancelled, if the local stage has changed. Loops, straps,
settings, peers, line state and the waiting commands are unchanged, and the inputs but for those
changes. That the update takes those changes with it (log entry 2), an input's change before the
end of its quiet timer (log entry 55), the low float before the high float (log entry 54) and
dry-run protection before the evaluation (log entry 62) are the model's DESIGN CHOICES, and that
the run follows the floats' changes is its reading (log entry 21, DEDUCED). -/
def Obligations.LevelUpdateFormsLevelRateInflowAndStage : Prop :=
  ∀ (s : State) (dt : Nat),
    s.mode = .operating ∨ s.mode = .configFallback → s.meas.levelDue = true →
    ∃ m t, WaterAtUpdate (s.now + dt) s m ∧ exec (.levelUpdate dt) s = .next t ∧
      LevelFormed m t ∧ DisagreementKept (s.now + dt) m t ∧ RateKept m t ∧ InflowKept m t ∧
      t.meas.levelDue = false ∧
      t.stage.levelStage = t.meas.level.map (newLevelStage s.settings s.stage.levelStage) ∧
      LocalFormed t ∧ t.stage.evaluationWaits = false ∧
      SiteFollows (t.stage.localStage ≠ s.stage.localStage) s t ∧ StageHanded m t

/-- In normal operation with a level update due, LEVEL_UPDATE answers a next state t. From the pump
records m as the changes of its scan end leave them (and as a start grant does, where a rise of
the site stage hands on headroom), n_req is formed by the demand tables from the level, the
inflow, the local stage, the floats and the counts n_running, n_avail and n_flow, 0 while the
LISTEN window runs and without the sump; every HAND pump is handled by its state; while w is
below n_req the RUN-ON pump started latest returns to RUNNING, or without one the first eligible
pump in duty order enters WAITING with attempt number 1, outside the window and with the low
float WET; while w is above it, of the pumps not at HAND, the newest in WAITING returns to OFF,
then the one in RETRY-WAIT that failed latest, then the one in RUNNING started earliest enters
RUN-ON, or RESTING with a run-on time of 0; then s is set from the pumps in RUNNING and RUN-ON
and the inflow, and the speed reference follows it, 0 with no pump in service or without
variable trim. What is handed on may then grant a start, and changes no other pump. That n_req
comes first, then the HAND pumps before w is compared, then the additions or removals, then the
trim from the pumps then running, is the order of log entry 17 (DEDUCED); that the update takes
the water changes of its scan end first (log entry 2), an input's change before the end of its
quiet timer (log entry 55) and dry-run protection before the evaluation of the local stage (log
entry 62) are the model's DESIGN CHOICES. In configuration fallback the pump records and n_req
stand. -/
def Obligations.LevelUpdateRunsDemandPumpControlAndTrim : Prop :=
  ∀ (s : State) (dt : Nat), s.meas.levelDue = true →
    (s.mode = .operating →
      ∃ m t, WaterAtUpdate (s.now + dt) s m ∧ exec (.levelUpdate dt) s = .next t ∧
        DemandRun m t) ∧
    (s.mode = .configFallback →
      ∃ t, exec (.levelUpdate dt) s = .next t ∧
        t.pumps = s.pumps ∧ t.stage.wanted = s.stage.wanted)

/-- For every setting, previous level stage p (a number or NONE) and level L: the new level stage k
is at most 4; if it is not 0 it meets L ≥ Tk, or p is a number with k ≤ p and L + h ≥ Tk; and no
greater stage up to 4 meets either condition. (R23.) -/
def Obligations.LevelStageIsTheGreatestThatHolds : Prop :=
  ∀ (c : Settings) (p : Option Nat) (level : Nat),
    newLevelStage c p level ≤ 4 ∧
      (1 ≤ newLevelStage c p level →
        stageThreshold c (newLevelStage c p level) ≤ level ∨
        ∃ q ∈ p, newLevelStage c p level ≤ q ∧
          stageThreshold c (newLevelStage c p level) ≤ level + c.hysteresis) ∧
      ∀ j ∈ [1, 2, 3, 4], newLevelStage c p level < j →
        ¬ (stageThreshold c j ≤ level ∨
          ∃ q ∈ p, j ≤ q ∧ stageThreshold c j ≤ level + c.hysteresis)

/-- In normal operation, with the rate valid, its timer at 0 between level updates, level l and
previous level p: RATE_TIMER answers the state in which R_f is (3 × R_f + ΔL) ÷ 4 truncated
toward zero with ΔL = l − p clamped to −2000 to 2000, L_prev is l and the timer stands at 500
scan ends, and nothing else but the clock has changed. If −2000 ≤ R_f ≤ 2000 before, it is so
after. Where the timer stands at 0 at a level update at a sump station, LEVEL_UPDATE computes in
the same way with the level it forms. The clock's moving by dt is the model's (log entry 1).
(R14.) -/
def Obligations.RateTimerFiltersTheRise : Prop :=
  ∀ (s : State) (dt : Nat),
    s.mode = .operating → s.meas.rateValid = true → s.meas.rateTimer = some 0 →
    s.meas.levelDue = false → ∀ l ∈ s.meas.level, ∀ p ∈ s.meas.levelPrev,
    exec (.rateTimer dt) s = .next { s with
      now := s.now + dt
      meas := { s.meas with
        rate := Int.tdiv (3 * s.meas.rate + max (-2000) (min 2000 ((l : Int) - p))) 4
        levelPrev := some l
        rateTimer := some 500 } } ∧
    (-2000 ≤ s.meas.rate → s.meas.rate ≤ 2000 →
      -2000 ≤ Int.tdiv (3 * s.meas.rate + max (-2000) (min 2000 ((l : Int) - p))) 4 ∧
      Int.tdiv (3 * s.meas.rate + max (-2000) (min 2000 ((l : Int) - p))) 4 ≤ 2000) ∧
    (s.settings.sumpFitted = true →
      ∃ t, exec (.levelUpdate dt) { s with meas := { s.meas with levelDue := true } } = .next t ∧ ∀ l' ∈ t.meas.level,
        t.meas.rate = Int.tdiv (3 * s.meas.rate + max (-2000) (min 2000 ((l' : Int) - p))) 4 ∧
        t.meas.levelPrev = some l' ∧ t.meas.rateTimer = some 500)

/-- In normal operation and both fallbacks: FLOAT_STATE_CHANGE, with change v of input w waiting,
answers a next state in which v has been received; where w is watched (a float, or a fitted
probe), in CHATTER the quiet timer restarts at 60 s, and in CLEAR the move out of UNKNOWN joins
nothing and any other change joins the entries younger than 10 s, the eighth bringing CHATTER
with an empty list. CHATTER_QUIET_TIMER of an input in CHATTER with its timer run out answers
one in which it is CLEAR with an empty list. Either way every other input stands, and a changed
reported state is handed on: in normal operation, with the low float no longer WET, every pump
in STARTING, RUNNING or RUN-ON is RESTING at the tail of the duty order, one in WAITING or
RETRY-WAIT is OFF, any other stands, and every contactor is dropped; the local stage is
evaluated once, with the level update or the last change of the scan end (log entry 2, DESIGN
CHOICE), and the site stage and its hold follow it; in fallback the run of the fallback logic
ends with the low float's change and begins with the high float's, so that one begun while the
low float reports DRY stands until that float's next change (log entry 21, DEDUCED: the model's
reading), and pump records stand. CHANGE_LIST_ENTRY_EXPIRY of an oldest entry 10 s old answers
the state in which it alone has left. -/
def Obligations.FloatChangesFeedTheWatchAndAreHandedOn : Prop :=
  ∀ (s : State) (dt : Nat) (w : WaterInput),
    (s.mode = .operating ∨ s.mode = .configFallback ∨ s.mode = .clockFallback) →
    (∀ v ∈ (waterFilter s w).waiting.head?,
      ∃ t, exec (.floatStateChange dt w) s = .next t ∧
        waterFilter t w = filterTaken v (waterFilter s w) ∧
        ChangeWatched (s.now + dt) w s (waterChatter t w) ∧
        WaterFollowed s (setWater w (waterFilter t w) (waterChatter t w)
          { s with now := s.now + dt }) t) ∧
    (∀ u ∈ (waterChatter s w).quietUntil, (waterChatter s w).chatter = true → u ≤ s.now + dt →
      ∃ t, exec (.chatterQuietTimer dt w) s = .next t ∧
        WaterFollowed s (setWater w (waterFilter s w) ⟨false, [], none⟩
          { s with now := s.now + dt }) t) ∧
    (∀ e ∈ (waterChatter s w).changes.head?, e + 10000000 ≤ s.now + dt →
      exec (.changeListEntryExpiry dt w) s = .next (setWater w (waterFilter s w)
        { waterChatter s w with changes := (waterChatter s w).changes.tail }
        { s with now := s.now + dt }))

/-- Where the line controller runs: a STAGE_CALL_RECEIVED or STATUS_REPORT_RECEIVED from a peer, the
other number unless the straps are at fault, recomputes M exactly when the stage it brings
differs from the one its sender's entry held (an entry it creates holds none), and PEER_REMOVAL
of a station whose last frame lies 20 s back always. M is then the greatest of the local stage
and the stages the table holds; if it is at or above the site stage, the site stage is M and the
hold is absent; if it is below, the site stage stands and the hold runs on, or starts with D
where it was absent. Without a recomputation M, the site stage and the hold stand. -/
def Obligations.SiteStageFollowsTheMaximum : Prop :=
  ∀ (s : State) (dt : Nat) (n : Fin 16) (seq stage : Byte) (payload : List Byte),
    let held := (peerEntry s n.val).bind (·.stage)
    (LineHears s → n.val ≠ 0 → n.val ≠ 15 →
      (n.val ≠ s.startup.number ∨ strapFault s = true) →
      (∃ t, exec (.stageCallReceived dt n seq stage) s = .next t ∧
        SiteFollows (held ≠ some (min 4 stage.toNat)) s t) ∧
      (payload.length = 12 →
        ∃ t, exec (.statusReportReceived dt n seq payload) s = .next t ∧
          SiteFollows (held ≠ some (min 4 (payload.getD 0 0).toNat)) s t)) ∧
    ((s.mode = .operating ∨ s.mode = .configFallback) →
      ∀ e ∈ peerEntry s n.val, e.lastFrame + 20000000 ≤ s.now + dt →
      ∃ t, exec (.peerRemoval dt n) s = .next t ∧ SiteFollows True s t)

/-- Where the line controller runs, with the hold run out, M below the site stage and the site stage
at most 4, DESCENT_HOLD_EXPIRY answers a next state whose site stage is one lower, whose hold
runs D again if M is still below it and is absent otherwise, whose local stage, M and inputs are
unchanged; in normal operation the signs show entry 0 of the new stage's program with its dwell
loaded, and a fall below 2 starts the low-stage time. -/
def Obligations.DescentHoldTakesTheSiteStageDownOne : Prop :=
  ∀ (s : State) (dt : Nat),
    (s.mode = .operating ∨ s.mode = .configFallback) → ∀ u ∈ s.stage.hold, u ≤ s.now + dt →
    s.stage.maximum < s.stage.site →
    ∃ t, exec (.descentHoldExpiry dt) s = .next t ∧
      t.stage.site = s.stage.site - 1 ∧
      t.stage.hold = (if s.stage.maximum < s.stage.site - 1
        then some (s.now + dt + s.settings.descentHold * 1000000) else none) ∧
      t.stage.localStage = s.stage.localStage ∧ t.stage.maximum = s.stage.maximum ∧
      t.inputs = s.inputs ∧ t.meas = s.meas ∧
      (s.mode = .operating → t.signs.stage = s.stage.site - 1 ∧ t.signs.entry = 0 ∧
        t.signs.dwellUntil = some (s.now + dt + shownDwell t) ∧
        (s.stage.site = 2 → t.gates.lowStageAt = some (s.now + dt))) ∧
      OutsideKept { s with now := s.now + dt } t

/-- With change v of pump p's selector waiting, SELECTOR_CHANGE answers a next state in which its
filter has handed v on. In normal operation, for a fitted pump, the record holds v: at OFF the
pump is DISABLED with no start in progress, its timers stopped, its lockout cause, history and
trouble count kept; at AUTO or HAND a DISABLED pump is OFF with no lockout cause; at HAND a pump
then in OFF with room in its history enters WAITING with attempt number 1 outside the LISTEN
window while the low float reports WET, and a pump in RUN-ON returns to RUNNING; and beyond that
only what handing on may change has changed. In either fallback, where the records stand, and
for a pump not fitted, nothing but the clock and the filter has changed. With change v of its
run feedback waiting, PUMP_FEEDBACK_CHANGE answers the state in which that filter has handed v
on and, in normal operation, the OPEN measure begins at this moment if v is OPEN and is absent
otherwise, nothing else but the clock changed. A change waits from its scan end until this row
hands it on (log entry 2). -/
def Obligations.SelectorsAndFeedbacksMoveTheirPump : Prop :=
  ∀ (s : State) (dt : Nat) (p : Fin 4),
    (s.mode = .operating ∨ s.mode = .configFallback ∨ s.mode = .clockFallback) →
    (∀ v ∈ (s.inputs.selector.get p).waiting.head?,
      ∃ t, exec (.selectorChange dt p) s = .next t ∧
        let m := { s with
          now := s.now + dt
          inputs := { s.inputs with
            selector := s.inputs.selector.set p (filterTaken v (s.inputs.selector.get p)) } }
        (s.mode = .operating → (s.pump p).state ≠ .notFitted →
          t.inputs = m.inputs ∧
          Handed (withPump (s.now + dt) p (selectedAt s (s.now + dt) (s.pump p) v) m) t) ∧
        (s.mode ≠ .operating ∨ (s.pump p).state = .notFitted → t = m)) ∧
    (∀ v ∈ (s.inputs.feedback.get p).waiting.head?,
      exec (.pumpFeedbackChange dt p) s = .next { s with
        now := s.now + dt
        inputs := { s.inputs with
          feedback := s.inputs.feedback.set p (filterTaken v (s.inputs.feedback.get p)) }
        pumps := if s.mode = .operating then
            { s.pumps with pump := s.pumps.pump.set p { s.pump p with
              openSince := if v = .opened then some (s.now + dt) else none } }
          else s.pumps })

/-- In normal operation, with pump p in STARTING: before its settle phase, with a scan end at or
after 2 s from its entry, FEEDBACK_CHECK answers a next state. Where the feedback is not stably
CLOSED or a valid current stands at or below the no-load code, the attempt has FAILED: trouble
one higher, RETRY-WAIT with its attempt number kept and a pause of 10 s, or LOCKED-OUT with
cause START and outcome FAILED after attempt 3. Otherwise the settle phase is open; and where no
more than 2 × t_s have passed and the current is at or below the settle code or invalid, the
pump is RUNNING with its outcome by R55: GOOD within t_s of its entry (with t_s of 2 s also at
the scan end of this check, log entry 15), SLOW later. ATTEMPT_FEEDBACK_LOSS in the settle
phase, with its feedback stably OPEN for 1 s at the last scan end and no change of it waiting,
and ATTEMPT_TIMEOUT, with a scan end at or after 2 × t_s from its entry, each answer one in
which the attempt has FAILED in the same way and the contactor has dropped. Beyond that only
what handing on may change has changed. -/
def Obligations.AttemptsAreCheckedSettledOrFailed : Prop :=
  ∀ (s : State) (dt : Nat) (p : Fin 4), s.mode = .operating →
    (s.pump p).state = .starting → ∀ v ∈ s.meas.lastScan,
    ((s.pump p).settling = false → ∀ u ∈ (s.pump p).attemptFrom, u + 2000000 ≤ v →
      ∃ t, exec (.feedbackCheck dt p) s = .next t ∧
        if (s.inputs.feedback.get p).stable ≠ some .closed ∨
            ∃ c ∈ s.meas.current.get p, c ≤ s.settings.noLoadCode then
          Handed (withPump (s.now + dt) p (failedAt (s.now + dt) (s.pump p)) s) t
        else if u + 2 * (s.settings.settleTime * 1000000) < v ∨
            ∃ c ∈ s.meas.current.get p, s.settings.settleCode < c then
          t = withPump (s.now + dt) p { s.pump p with settling := true } s
        else
          Handed (withPump (s.now + dt) p (runningAt s.settings (s.now + dt)
            (decide (v ≤ u + s.settings.settleTime * 1000000 ∨
              (s.settings.settleTime = 2 ∧ v < u + 2020000)))
            (s.meas.current.get p) (s.pump p)) s) t) ∧
    ((s.pump p).settling = true → OpenForOneSecond s.inputs p v (s.pump p) →
      ∃ t, exec (.attemptFeedbackLoss dt p) s = .next t ∧
        Handed (withPump (s.now + dt) p (failedAt (s.now + dt) (s.pump p)) s) t ∧
        contactor t p = false) ∧
    (∀ u ∈ (s.pump p).attemptFrom, u + 2 * (s.settings.settleTime * 1000000) ≤ v →
      ∃ t, exec (.attemptTimeout dt p) s = .next t ∧
        Handed (withPump (s.now + dt) p (failedAt (s.now + dt) (s.pump p)) s) t ∧
        contactor t p = false)

/-- In normal operation: RETRY_PAUSE_EXPIRY for a pump in RETRY-WAIT whose pause has run out answers
a next state in which, outside the LISTEN window and with fewer entries in its history than the
starts-per-hour limit, it is WAITING with its attempt number raised by one and its waiting since
set, and otherwise it stays in RETRY-WAIT with the pause ended and nothing else changed;
START_HISTORY_ENTRY_EXPIRY for a pump whose oldest entry is 3600 s old answers one in which that
entry has left, and a pump stranded in RETRY-WAIT that then has room is WAITING in the same way.
That no pump leaves RETRY-WAIT for WAITING while the window runs, but at its end, is the model's
reading (log entry 20, DEDUCED). RUN_ON_TIMER_EXPIRY for a pump in RUN-ON whose timer has run
out answers one in which it is RESTING at the tail of the duty order with its rest timer
started; REST_TIMER_EXPIRY for a pump in RESTING whose timer has run out one in which it is OFF
with lockout cause, history, trouble count and outcome as they were; in both its contactor is
dropped. Beyond that only what handing on may change has changed. -/
def Obligations.RetryHistoryRunOnAndRestTimersMoveTheirPump : Prop :=
  ∀ (s : State) (dt : Nat) (p : Fin 4), s.mode = .operating →
    ((s.pump p).state = .retryWait → ∀ u ∈ (s.pump p).retryUntil, u ≤ s.now + dt →
      ∃ t, exec (.retryPauseExpiry dt p) s = .next t ∧
        if (s.pump p).history.length < s.settings.startsPerHour ∧ s.line.window = .closed then
          Handed (withPump (s.now + dt) p
            (waitingAt (s.now + dt) ((s.pump p).attempt.getD 0 + 1) (s.pump p)) s) t
        else t = withPump (s.now + dt) p { s.pump p with retryUntil := none } s) ∧
    (∀ h ∈ (s.pump p).history.head?, h + 3600000000 ≤ s.now + dt →
      ∃ t, exec (.startHistoryEntryExpiry dt p) s = .next t ∧
        if (s.pump p).state = .retryWait ∧ (s.pump p).retryUntil = none ∧
            (s.pump p).history.tail.length < s.settings.startsPerHour ∧
            s.line.window = .closed then
          Handed (withPump (s.now + dt) p (waitingAt (s.now + dt)
            ((s.pump p).attempt.getD 0 + 1)
            { s.pump p with history := (s.pump p).history.tail }) s) t
        else t = withPump (s.now + dt) p
          { s.pump p with history := (s.pump p).history.tail } s) ∧
    ((s.pump p).state = .runOn → ∀ u ∈ (s.pump p).runOnUntil, u ≤ s.now + dt →
      ∃ t, exec (.runOnTimerExpiry dt p) s = .next t ∧ contactor t p = false ∧
        Handed (withResting (s.now + dt) p (s.pump p) s) t) ∧
    ((s.pump p).state = .resting → ∀ u ∈ (s.pump p).restUntil, u ≤ s.now + dt →
      ∃ t, exec (.restTimerExpiry dt p) s = .next t ∧ contactor t p = false ∧
        Handed (withPump (s.now + dt) p (leftIn .off (s.pump p)) s) t)

/-- In normal operation, for a pump p in RUNNING or RUN-ON: OVERCURRENT_TRIP with 100 scan ends at
or above the trip code, and FEEDBACK_LOSS_TRIP with its feedback stably OPEN for 1 s at the last
scan end, each answer a next state in which the trouble count is one higher (at most 15), the
last outcome unchanged, and the pump LOCKED-OUT with cause TRIPS in its place of the duty order
if the count is then 15, or RESTING at the tail of the duty order with its rest timer started
otherwise; its contactor has dropped, and beyond that only what handing on may change has
changed. -/
def Obligations.TripsRestThePumpOrLockItOut : Prop :=
  ∀ (s : State) (dt : Nat) (p : Fin 4), s.mode = .operating →
    ((s.pump p).state = .running ∨ (s.pump p).state = .runOn) →
    (100 ≤ (s.pump p).overRun →
      ∃ t, exec (.overcurrentTrip dt p) s = .next t ∧ contactor t p = false ∧
        Handed (if 14 ≤ (s.pump p).trouble
          then withPump (s.now + dt) p
            { leftIn .lockedOut (troubled (s.pump p)) with lockout := some .trips } s
          else withResting (s.now + dt) p (troubled (s.pump p)) s) t) ∧
    (∀ v ∈ s.meas.lastScan, OpenForOneSecond s.inputs p v (s.pump p) →
      ∃ t, exec (.feedbackLossTrip dt p) s = .next t ∧ contactor t p = false ∧
        Handed (if 14 ≤ (s.pump p).trouble
          then withPump (s.now + dt) p
            { leftIn .lockedOut (troubled (s.pump p)) with lockout := some .trips } s
          else withResting (s.now + dt) p (troubled (s.pump p)) s) t)

/-- With the panel reset key's change to ACTIVE waiting, PANEL_RESET_KEY answers a next state in
which its filter has handed it on. In normal operation the trouble count of every fitted pump
that is not LOCKED-OUT and holds no lockout cause is 0, every pump record otherwise as it was
but for a start grant; every channel that stood in FAULT with both limits ACTIVE stays in FAULT
with cause LIMIT-CONFLICT, any other has left FAULT with no cause, no drift time and travel used
0; and beyond that only what handing on may change has changed. In either fallback nothing but
the clock and the filter has changed. -/
def Obligations.PanelResetClearsTroubleAndGateFaults : Prop :=
  ∀ (s : State) (dt : Nat),
    (s.mode = .operating ∨ s.mode = .configFallback ∨ s.mode = .clockFallback) →
    s.inputs.panelResetKey.waiting.head? = some .active →
    ∃ t, exec (.panelResetKey dt) s = .next t ∧
      t.inputs = { s.inputs with panelResetKey := filterTaken .active s.inputs.panelResetKey } ∧
      (s.mode = .operating →
        HandedOn { s with now := s.now + dt, inputs := t.inputs } t ∧
        PumpsHeld { s with
          now := s.now + dt
          pumps := { s.pumps with pump := s.pumps.pump.map fun r =>
            if r.state = .notFitted ∨ r.state = .lockedOut ∨ r.lockout.isSome = true then r
            else { r with trouble := 0 } } } t ∧
        ∀ c, (s.gate c).state = .fault →
          if limitActive s c .openLimit = true ∧ limitActive s c .closedLimit = true then
            (t.gate c).state = .fault ∧ (t.gate c).cause = some .limitConflict
          else (t.gate c).state ≠ .fault ∧ (t.gate c).cause = none ∧ (t.gate c).driftAt = none ∧
            (t.gate c).used = 0) ∧
      (s.mode ≠ .operating → t = { s with now := s.now + dt, inputs := t.inputs })

/-- Where a tool frame is handed on, with the target the own number or 0: CLEAR_LOCKOUT and
CLEAR_PUMP_RECORD with an index above 3 are answered RANGE, for a pump that is not fitted NOT-
FITTED, and in configuration fallback WRONG-STATE, each with no other effect. In normal
operation, for a fitted pump: CLEAR PUMP RECORD sets the trouble count to 0 and the last outcome
to CLEAN, nothing else of the record, and is answered DONE; CLEAR LOCKOUT without a cause
present is answered WRONG-STATE with no other effect, with a cause outside LOCKED-OUT makes the
cause absent alone and is answered DONE, and in LOCKED-OUT puts the pump in OFF with no cause,
its trouble count, outcome and history kept, hands that on, and is answered DONE; that this last
answer waits in the queue is claimed where at most two frames waited, since what is handed on
may take a place before it. -/
def Obligations.PumpOrdersClearWhatTheyName : Prop :=
  ∀ (s : State) (dt : Nat) (target : Fin 16) (seq index : Byte),
    ToolReady s → (target.val = s.startup.number ∨ target.val = 0) →
    (4 ≤ index.toNat →
      (∃ t, exec (.clearLockout dt target seq index) s = .next t ∧
        Answered [seq, 0x81, index, 4] (arrived (s.now + dt) s) t) ∧
      (∃ t, exec (.clearPumpRecord dt target seq index) s = .next t ∧
        Answered [seq, 0x82, index, 4] (arrived (s.now + dt) s) t)) ∧
    ∀ p : Fin 4, index.toNat = p.val →
      ((s.pump p).state = .notFitted →
        (∃ t, exec (.clearLockout dt target seq index) s = .next t ∧
          Answered [seq, 0x81, index, 1] (arrived (s.now + dt) s) t) ∧
        (∃ t, exec (.clearPumpRecord dt target seq index) s = .next t ∧
          Answered [seq, 0x82, index, 1] (arrived (s.now + dt) s) t)) ∧
      ((s.pump p).state ≠ .notFitted → s.mode = .configFallback →
        (∃ t, exec (.clearLockout dt target seq index) s = .next t ∧
          Answered [seq, 0x81, index, 2] (arrived (s.now + dt) s) t) ∧
        (∃ t, exec (.clearPumpRecord dt target seq index) s = .next t ∧
          Answered [seq, 0x82, index, 2] (arrived (s.now + dt) s) t)) ∧
      ((s.pump p).state ≠ .notFitted → s.mode = .operating →
        (∃ t, exec (.clearPumpRecord dt target seq index) s = .next t ∧
          Answered [seq, 0x82, index, 0] (withPump (s.now + dt) p
            { s.pump p with trouble := 0, outcome := .clean } (arrived (s.now + dt) s)) t) ∧
        ((s.pump p).lockout = none →
          ∃ t, exec (.clearLockout dt target seq index) s = .next t ∧
            Answered [seq, 0x81, index, 2] (arrived (s.now + dt) s) t) ∧
        ((s.pump p).lockout ≠ none → (s.pump p).state ≠ .lockedOut →
          ∃ t, exec (.clearLockout dt target seq index) s = .next t ∧
            Answered [seq, 0x81, index, 0] (withPump (s.now + dt) p
              { s.pump p with lockout := none } (arrived (s.now + dt) s)) t) ∧
        ((s.pump p).lockout ≠ none → (s.pump p).state = .lockedOut →
          ∃ t, exec (.clearLockout dt target seq index) s = .next t ∧
            Handed (withPump (s.now + dt) p { leftIn .off (s.pump p) with lockout := none }
              (arrived (s.now + dt) s)) t ∧
            (s.line.queue.length ≤ 2 → AnswerWaits [seq, 0x81, index, 0] t)))

/-- Where a tool frame is handed on, with the target the own number or 0: an index above 1 is
answered RANGE, a channel that is not fitted (for REOPEN FLOOD GATE, one that is no flood gate)
NOT-FITTED, and WRONG-STATE outside normal operation, for CLEAR GATE FAULT a channel not in
FAULT, for REOPEN FLOOD GATE one at site stage 2 or more or not CLOSED or UNKNOWN, each with no
other effect. Otherwise CLEAR_GATE_FAULT leaves FAULT by the limits (both ACTIVE: FAULT with
LIMIT-CONFLICT; OPEN at site stage 2 or below; CLOSED or UNKNOWN, from which an opening or a
closing may follow at once, log entry 16, DEDUCED) with no drift time and travel used 0, and
REOPEN_FLOOD_GATE leaves the request pending or the channel in OPENING; only what handing on may
change has changed beyond that, and the answer DONE waits in the queue, claimed where at most
two frames waited, since what is handed on may take a place before it. -/
def Obligations.GateOrdersClearAndReopen : Prop :=
  ∀ (s : State) (dt : Nat) (target : Fin 16) (seq index : Byte),
    ToolReady s → (target.val = s.startup.number ∨ target.val = 0) →
    (2 ≤ index.toNat →
      (∃ t, exec (.clearGateFault dt target seq index) s = .next t ∧
        Answered [seq, 0x83, index, 4] (arrived (s.now + dt) s) t) ∧
      (∃ t, exec (.reopenFloodGate dt target seq index) s = .next t ∧
        Answered [seq, 0x84, index, 4] (arrived (s.now + dt) s) t)) ∧
    ∀ c : Fin 2, index.toNat = c.val →
      (gateKind s c = .none →
        ∃ t, exec (.clearGateFault dt target seq index) s = .next t ∧
          Answered [seq, 0x83, index, 1] (arrived (s.now + dt) s) t) ∧
      (gateKind s c ≠ .floodgate →
        ∃ t, exec (.reopenFloodGate dt target seq index) s = .next t ∧
          Answered [seq, 0x84, index, 1] (arrived (s.now + dt) s) t) ∧
      (gateKind s c ≠ .none → (s.mode ≠ .operating ∨ (s.gate c).state ≠ .fault) →
        ∃ t, exec (.clearGateFault dt target seq index) s = .next t ∧
          Answered [seq, 0x83, index, 2] (arrived (s.now + dt) s) t) ∧
      (gateKind s c = .floodgate → (s.mode ≠ .operating ∨ 2 ≤ s.stage.site ∨
          ((s.gate c).state ≠ .closed ∧ (s.gate c).state ≠ .unknown)) →
        ∃ t, exec (.reopenFloodGate dt target seq index) s = .next t ∧
          Answered [seq, 0x84, index, 2] (arrived (s.now + dt) s) t) ∧
      (gateKind s c ≠ .none → s.mode = .operating → (s.gate c).state = .fault →
        ∃ t, exec (.clearGateFault dt target seq index) s = .next t ∧
          HandedOn (arrived (s.now + dt) s) t ∧ PumpsHeld (arrived (s.now + dt) s) t ∧
          (s.line.queue.length ≤ 2 → AnswerWaits [seq, 0x83, index, 0] t) ∧
          (t.gate c).driftAt = none ∧ (t.gate c).used = 0 ∧
          (limitActive s c .openLimit = true → limitActive s c .closedLimit = true →
            (t.gate c).state = .fault ∧ (t.gate c).cause = some .limitConflict) ∧
          (limitActive s c .openLimit = true → limitActive s c .closedLimit = false →
            (t.gate c).cause = none ∧ (s.stage.site ≤ 2 → (t.gate c).state = .opened)) ∧
          (limitActive s c .openLimit = false → limitActive s c .closedLimit = true →
            (t.gate c).cause = none ∧
              ((t.gate c).state = .closed ∨ (t.gate c).state = .opening)) ∧
          (limitActive s c .openLimit = false → limitActive s c .closedLimit = false →
            (t.gate c).cause = none ∧ (s.stage.site ≤ 2 →
              (t.gate c).state = .unknown ∨ (t.gate c).state = .opening))) ∧
      (gateKind s c = .floodgate → s.mode = .operating → s.stage.site ≤ 1 →
        ((s.gate c).state = .closed ∨ (s.gate c).state = .unknown) →
        ∃ t, exec (.reopenFloodGate dt target seq index) s = .next t ∧
          HandedOn (arrived (s.now + dt) s) t ∧ PumpsHeld (arrived (s.now + dt) s) t ∧
          (s.line.queue.length ≤ 2 → AnswerWaits [seq, 0x84, index, 0] t) ∧
          (((t.gate c).state = (s.gate c).state ∧ (t.gate c).reopen = true) ∨
            (t.gate c).state = .opening))

/-- Where a tool frame is handed on: CLEAR_COUNTERS (target the own number or 0) sets all nine
counters to 0 before its answer DONE is handed over, and changes nothing else; RESTART
(likewise) is answered WRONG-STATE with no other effect while a channel is in CLOSING or
OPENING, DONE with no other effect while a restart is pending, and otherwise sets the restart-
pending flag, which waits for the answer DONE placed with it, or, that answer being dropped for
want of room, waits for no answer, and for the end of a write in flight if there is one; an
UNKNOWN_TOOL_REQUEST whose record kind is not 1 to 8, or, to the own number or 0, whose order
kind is not 1 to 7, is answered UNKNOWN with no other effect. -/
def Obligations.CountersRestartAndUnknownRequestsAreAnswered : Prop :=
  ∀ (s : State) (dt : Nat) (target : Fin 16) (seq code index : Byte), ToolReady s →
    ((target.val = s.startup.number ∨ target.val = 0) →
      (∃ t, exec (.clearCounters dt target seq index) s = .next t ∧
        Answered [seq, 0x85, index, 0] { arrived (s.now + dt) s with
          line := { (arrived (s.now + dt) s).line with
            counters := ⟨0, 0, 0, 0, 0, 0, 0, 0, 0⟩ } } t) ∧
      ((∃ c, (s.gate c).state = .closing ∨ (s.gate c).state = .opening) →
        ∃ t, exec (.restart dt target seq index) s = .next t ∧
          Answered [seq, 0x87, index, 2] (arrived (s.now + dt) s) t) ∧
      ((∀ c, (s.gate c).state ≠ .closing ∧ (s.gate c).state ≠ .opening) →
        s.tool.restart ≠ none →
        ∃ t, exec (.restart dt target seq index) s = .next t ∧
          Answered [seq, 0x87, index, 0] (arrived (s.now + dt) s) t) ∧
      ((∀ c, (s.gate c).state ≠ .closing ∧ (s.gate c).state ≠ .opening) →
        s.tool.restart = none →
        ∃ t, exec (.restart dt target seq index) s = .next t ∧
          t = (if answersHeld s < 4 ∧ s.line.queue.length < 5 then
            { arrived (s.now + dt) s with
              tool := { s.tool with restart := some ⟨true, s.tool.write.isSome⟩ }
              line := { (arrived (s.now + dt) s).line with
                queue := s.line.queue ++
                  [answerEntry [seq, 0x87, index, 0] .restart (arrived (s.now + dt) s)]
                placed := s.line.placed + 1 } }
          else
            { arrived (s.now + dt) s with
              tool := { s.tool with restart := some ⟨false, s.tool.write.isSome⟩ }
              line := { (arrived (s.now + dt) s).line with
                counters := { (arrived (s.now + dt) s).line.counters with
                  queueDrops := min 65535 (s.line.counters.queueDrops + 1) } } })) ∧
      ((code.toNat = 0 ∨ 7 < code.toNat) →
        ∃ t, exec (.unknownToolRequest dt target seq true code index) s = .next t ∧
          Answered [seq, code ||| 0x80, index, 7] (arrived (s.now + dt) s) t)) ∧
    (target.val = s.startup.number → (code.toNat = 0 ∨ 8 < code.toNat) →
      ∃ t, exec (.unknownToolRequest dt target seq false code index) s = .next t ∧
        Answered [seq, code, index, 7] (arrived (s.now + dt) s) t)

/-- Where a tool frame is handed on, with the target the own number, each of the eight queries
answers a next state in which one answer is placed (or counted as a drop where the queue has no
room for it) and nothing else has changed but what the frame's arrival changes: the summary,
lighting, counters and measurement records with any index; the pump record for index 0 to 3 of a
fitted pump; the gate record for index 0 or 1 of a fitted channel; the peer view for index 1 to
14; the configuration chunk for a multiple of 32 with an image status other than ABSENT. Any
other index is answered RANGE, a pump or channel not fitted NOT-FITTED, and a chunk with status
ABSENT WRONG-STATE. Every record is pinned byte by byte by the layouts of chapter 12 with the
codes of 12.2 (Safety.lean): 27, 7, 7, 28, 18, 18, 19 and 32 bytes, a number high byte first, an
absent value 0xFF or 0xFFFF or its code, a peer field whose held bit is clear 0, H 0 and no kind
or target in configuration fallback, where the steps in use are those start-up fixed (log entry
12). Four readings in these layouts are the model's: a reservation's time left truncated to
whole milliseconds and a travel used to whole tenths of a second (log entry 44, DESIGN CHOICE),
the supply-mode byte and the absent SHED CALL of the summary (log entry 27, DEDUCED), the travel
used after a travel has ended (log entry 47, DESIGN CHOICE), and the reservation shown for a
station that is absent from the table (log entry 52, DEDUCED). -/
def Obligations.QueriesAreAnsweredWithTheirRecords : Prop :=
  ∀ (s : State) (dt : Nat) (target : Fin 16) (seq index : Byte), ToolReady s →
    target.val = s.startup.number →
    (∃ t, exec (.stationSummaryQuery dt target seq index) s = .next t ∧
      Answered ([seq, 1, index, 0] ++ summaryLayout (arrived (s.now + dt) s))
        (arrived (s.now + dt) s) t) ∧
    (∃ t, exec (.lightingRecordQuery dt target seq index) s = .next t ∧
      Answered ([seq, 4, index, 0] ++ lightingLayout (arrived (s.now + dt) s))
        (arrived (s.now + dt) s) t) ∧
    (∃ t, exec (.lineCountersQuery dt target seq index) s = .next t ∧
      Answered ([seq, 6, index, 0] ++ countersLayout (arrived (s.now + dt) s).line.counters)
        (arrived (s.now + dt) s) t) ∧
    (∃ t, exec (.measurementRecordQuery dt target seq index) s = .next t ∧
      Answered ([seq, 7, index, 0] ++ measurementLayout (arrived (s.now + dt) s))
        (arrived (s.now + dt) s) t) ∧
    (∃ t, exec (.peerViewQuery dt target seq index) s = .next t ∧
      Answered (if 1 ≤ index.toNat ∧ index.toNat ≤ 14
        then [seq, 5, index, 0] ++ peerLayout (arrived (s.now + dt) s) index.toNat
        else [seq, 5, index, 4]) (arrived (s.now + dt) s) t) ∧
    (∃ t, exec (.configurationChunkQuery dt target seq index) s = .next t ∧
      Answered (if index.toNat % 32 ≠ 0 then [seq, 8, index, 4]
        else if s.startup.imageStatus = some .absent then [seq, 8, index, 2]
        else [seq, 8, index, 0] ++ (s.startup.activeImage.drop index.toNat).take 32)
        (arrived (s.now + dt) s) t) ∧
    (4 ≤ index.toNat → ∃ t, exec (.pumpRecordQuery dt target seq index) s = .next t ∧
      Answered [seq, 2, index, 4] (arrived (s.now + dt) s) t) ∧
    (∀ p : Fin 4, index.toNat = p.val →
      ∃ t, exec (.pumpRecordQuery dt target seq index) s = .next t ∧
        Answered (if (s.pump p).state = .notFitted then [seq, 2, index, 1]
          else [seq, 2, index, 0] ++ pumpLayout (arrived (s.now + dt) s) p)
          (arrived (s.now + dt) s) t) ∧
    (2 ≤ index.toNat → ∃ t, exec (.gateRecordQuery dt target seq index) s = .next t ∧
      Answered [seq, 3, index, 4] (arrived (s.now + dt) s) t) ∧
    (∀ c : Fin 2, index.toNat = c.val →
      ∃ t, exec (.gateRecordQuery dt target seq index) s = .next t ∧
        Answered (if gateKind s c = .none then [seq, 3, index, 1]
          else [seq, 3, index, 0] ++ gateLayout (arrived (s.now + dt) s) c)
          (arrived (s.now + dt) s) t)

/-- Where a tool frame is handed on, with the target the own number or 0 and at most 32 data bytes:
CONFIG_WRITE without data, or whose data would pass the aligned 32-byte block, is answered
RANGE; with the lock pin active LOCKED; with a write in flight BUSY; with a restart pending
WRONG-STATE, each with no other effect; otherwise the slot holds offset, data, sequence number
and moment, and the port has sent write enable, then write with address and data. Where the line
controller runs, with write w polling within 20 ms: MEMORY_STATUS_POLL with bit 0 of the status
0 begins the read-back of w's offset, and with bit 0 set polls again, nothing else changed.
READ_BACK_COMPARE of w's read-back empties the slot and hands over DONE if the bytes are w's
data and FAILED if not; CONFIG_WRITE_TIMEOUT at 20 ms while polling empties the slot and hands
over FAILED; in both the answer bears w's sequence number and offset, and a restart that waits
for this write is tagged on it. -/
def Obligations.ConfigurationWriteRunsOnTheMemoryPort : Prop :=
  ∀ (s : State) (dt : Nat) (target : Fin 16) (seq offset status : Byte) (data : List Byte)
    (lockPin : Bool),
    (ToolReady s → (target.val = s.startup.number ∨ target.val = 0) → data.length ≤ 32 →
      ∃ t, exec (.configWrite dt target seq offset data lockPin) s = .next t ∧
        if data.length = 0 ∨ 32 < offset.toNat % 32 + data.length then
          Answered [seq, 0x86, offset, 4] (arrived (s.now + dt) s) t
        else if lockPin = true then Answered [seq, 0x86, offset, 3] (arrived (s.now + dt) s) t
        else if s.tool.write ≠ none then
          Answered [seq, 0x86, offset, 5] (arrived (s.now + dt) s) t
        else if s.tool.restart ≠ none then
          Answered [seq, 0x86, offset, 2] (arrived (s.now + dt) s) t
        else t = { arrived (s.now + dt) s with tool := { s.tool with
          write := some ⟨offset.toNat, data, seq, s.now + dt, .polling⟩
          port := [[0x06], 0x02 :: offset :: data] } }) ∧
    ((s.mode = .operating ∨ s.mode = .configFallback) → ∀ w ∈ s.tool.write,
      (w.phase = .polling → s.now + dt ≤ w.acceptedAt + 20000 →
        ∃ t, exec (.memoryStatusPoll dt status) s = .next t ∧
          t = { s with
            now := s.now + dt
            tool := if status.toNat % 2 = 0 then { s.tool with
                write := some { w with phase := .readBack }
                port := [[0x05], [0x03, BitVec.ofNat 8 w.offset]] }
              else { s.tool with port := [[0x05]] } }) ∧
      (w.phase = .readBack →
        ∃ t, exec (.readBackCompare dt data) s = .next t ∧
          t = placeFrame .stationAnswer [w.sequence, 0x86, BitVec.ofNat 8 w.offset,
              if data = w.data then 0 else 6]
            (if ∃ x ∈ s.tool.restart, x.write = true then .write else .plain)
            { s with now := s.now + dt, tool := { s.tool with write := none } }) ∧
      (w.phase = .polling → w.acceptedAt + 20000 ≤ s.now + dt →
        ∃ t, exec (.configWriteTimeout dt) s = .next t ∧
          t = placeFrame .stationAnswer [w.sequence, 0x86, BitVec.ofNat 8 w.offset, 6]
            (if ∃ x ∈ s.tool.restart, x.write = true then .write else .plain)
            { s with now := s.now + dt, tool := { s.tool with write := none } }))

/-- Where the line controller runs, the station is not sending and no complete frame is held:
BYTE_RECEIVED with the ten levels of a byte answers the state in which the byte of bits 1 to 8,
the least significant first, is taken and the idle count begins anew, a low stop bit being a
framing error: the receiver, hunting, begins assembly on 0xA6 without one and passes over
anything else, and, assembling, has collected the byte with its error; a partial frame that was
spoilt (a framing error, a length over 40), or before which the idle count had passed 4 bit
times when this byte's start bit came, is first discarded and counted broken. A start bit that
reads high at its middle is a disturbance: no byte is taken, but the idle count begins anew
after its low and a partial frame spoilt or passed by is lost in the same way.
PARTIAL_FRAME_DISCARD of a spoilt partial frame, or one whose idle count passes 4 bit times now,
counts it broken and hunts again. Nothing else but the clock has changed. The idle count is no
more than the row says that RXD has been idle, nor than the time since the stop bit of the last
byte (its middle, where it read low), the low of the last disturbance, or the end of the last
frame or attempt (log entry 7). -/
def Obligations.ReceiverAssemblesByteByByte : Prop :=
  ∀ (s : State) (dt idle : Nat) (levels : BitVec 10), LineHears s →
    let b : Byte := levels.extractLsb' 1 8
    let err := !levels.getLsbD 9
    let lost := partialSpoilt s.line.receiver = true ∨
      (s.line.receiver ≠ .hunting ∧ 64 < idle ∧ s.line.idleFrom + 64 < s.now + dt - 160)
    (levels.getLsbD 0 = true → exec (.byteReceived dt idle levels) s = .next { s with
        now := s.now + dt
        line := { s.line with
          idleFrom := max s.line.idleFrom (s.now + dt - 160)
          receiver := if lost then .hunting else s.line.receiver
          counters := { s.line.counters with
            broken := if lost then min 65535 (s.line.counters.broken + 1)
              else s.line.counters.broken } } }) ∧
    (levels.getLsbD 0 = false →
      exec (.byteReceived dt idle levels) s = .next { s with
        now := s.now + dt
        line := { s.line with
          idleFrom := max s.line.idleFrom (s.now + dt - if err then 8 else 0)
          receiver :=
            match (if lost then Receiver.hunting else s.line.receiver) with
            | .hunting => if b = 0xA6 ∧ err = false then .assembling [] false else .hunting
            | .assembling bytes _ => .assembling (bytes ++ [b]) err
          counters := { s.line.counters with
            broken := if lost then min 65535 (s.line.counters.broken + 1)
              else s.line.counters.broken } } }) ∧
    ((partialSpoilt s.line.receiver = true ∨
        (s.line.receiver ≠ .hunting ∧ 64 < idle ∧ s.line.idleFrom + 64 < s.now + dt)) →
      exec (.partialFrameDiscard ⟨dt, idle⟩) s = .next { s with
        now := s.now + dt
        line := { s.line with
          receiver := .hunting
          counters := { s.line.counters with
            broken := min 65535 (s.line.counters.broken + 1) } } })

/-- For every state s with the frame's bytes on the line since the attempt began: the bit sent now
is bit number i of the frame, i being the whole bit times of 16 µs that have passed, byte i / 10
giving a low start bit, its eight data bits with the least significant first, and a high stop
bit, and none is sent once 10 × b bit times have passed. DEN is asserted and TXD low exactly
while a low bit is sent; for a high bit, and with nothing on the line, DEN is released and TXD
high. After COLLISION, FRAME_SENT or LINE_FAULT of an attempt on the line, and after
MAIN_CLOCK_LOSS, DEN is released. -/
def Obligations.FramesGoOutBitByBitUnderDen : Prop :=
  ∀ (s : State) (dt lowFor : Nat),
    (∀ bytes ∈ s.line.sending,
      let i := (s.now - s.line.sendingFrom) / 16
      sentLevel s = levelOfBit bytes i ∧
        (10 * bytes.length ≤ i → sentLevel s = none) ∧
        (i < 10 * bytes.length → sentLevel s ≠ none) ∧
        (denAsserted s = true ↔ levelOfBit bytes i = some false) ∧
        (txdHigh s = true ↔ levelOfBit bytes i ≠ some false) ∧
        (drivesLow s = true ↔ levelOfBit bytes i = some false)) ∧
    (s.line.sending = none → denAsserted s = false ∧ txdHigh s = true ∧ drivesLow s = false) ∧
    ((s.mode = .operating ∨ s.mode = .configFallback) →
      (∃ e, (s.line.report.toList ++ s.line.queue).find? (·.onLine) = some e) →
      ∀ bytes ∈ s.line.sending,
      (levelOfBit bytes ((s.now + dt - s.line.sendingFrom) / 16) = some true →
        ∃ t, exec (.collision dt false) s = .next t ∧ denAsserted t = false) ∧
      (s.line.sendingFrom + 160 * bytes.length ≤ s.now + dt →
        ∃ t, exec (.frameSent dt) s = .next t ∧ denAsserted t = false) ∧
      (levelOfBit bytes ((s.now + dt - s.line.sendingFrom) / 16) = some false →
        (s.line.state = .listen ∨ s.line.state = .onLine) →
        ∃ t, exec (.lineFault dt .lowReadHigh lowFor) s = .next t ∧ denAsserted t = false)) ∧
    ((s.mode = .operating ∨ s.mode = .configFallback) →
      ∃ t, exec (.mainClockLoss dt) s = .next t ∧ denAsserted t = false)

/-- Where the line controller runs, the station is not sending and the receiver holds a complete
frame: if a test fails, BAD_FRAME_RECEIVED answers the state in which the receiver hunts and the
counter of the first failing test is one higher (check, high kind bits, sender of a station's
kind, length: broken; kind: unknown kinds; tool kind from a sender other than 15, or in LISTEN,
CLASH or while the window runs: discarded queries), nothing else but the clock changed. If none
fails, FRAME_RECEIVED answers a next state in which the receiver hunts; a frame from a station
is counted good, one bearing a peer's number refreshes that peer's entry and returns the island
timer to 0, one bearing the own number, which is not the tool's 15 (straps not at fault), adds 1
to the own-number count, and a frame of the tool for another station is counted good and changes
nothing else. -/
def Obligations.CompleteFramesAreJudgedAndCounted : Prop :=
  ∀ (s : State) (dt : Nat) (lockPin : Bool),
    (s.mode = .operating ∨ s.mode = .configFallback) → s.line.sending = none →
    ∀ bytes ∈ frameHeld s.line.receiver,
    let n := (bytes.getD 3 0).toNat
    let kind := (bytes.getD 0 0).toNat
    let sender := (bytes.getD 1 0).toNat / 16
    let target := (bytes.getD 1 0).toNat % 16
    let fits := (crc16 (bytes.take (n + 4))).toNat =
      (bytes.getD (n + 4) 0).toNat * 256 + (bytes.getD (n + 5) 0).toNat
    let known := kind ∈ [1, 2, 3, 4, 8, 9, 10]
    let tool := kind = 8 ∨ kind = 9
    let deaf := s.line.window ≠ .closed ∨ s.line.state = .listen ∨ s.line.state = .clash
    let c := s.line.counters
    let broken := { c with broken := min 65535 (c.broken + 1) }
    let discarded := { c with discardedQueries := min 65535 (c.discardedQueries + 1) }
    let bad : Option Counters :=
      if ¬ fits ∨ 16 ≤ kind then some broken
      else if ¬ known then some { c with unknownKinds := min 65535 (c.unknownKinds + 1) }
      else if tool ∧ sender ≠ 15 then some discarded
      else if ¬ tool ∧ (sender = 0 ∨ sender = 15) then some broken
      else if lengthAllowed kind n = false then some broken
      else if tool ∧ deaf then some discarded
      else none
    (∀ c' ∈ bad, exec (.badFrameReceived dt) s = .next { s with
      now := s.now + dt, line := { s.line with receiver := .hunting, counters := c' } }) ∧
    (bad = none →
      ∃ t, exec (.frameReceived dt lockPin) s = .next t ∧
        t.line.receiver = .hunting ∧
        (sender ≠ 15 → t.line.counters.good = min 65535 (c.good + 1)) ∧
        (sender ≠ 15 → (sender ≠ s.startup.number ∨ strapFault s = true) →
          t.line.islandFrom = some (s.now + dt) ∧ ∃ e ∈ peerEntry t sender,
            e.lastFrame = s.now + dt ∧ e.stale = false ∧ e.sequence = bytes.getD 2 0) ∧
        (sender = s.startup.number → sender ≠ 15 → strapFault s = false →
          t.line.counters.ownNumber = min 65535 (c.ownNumber + 1) ∧
            t.peers.table = s.peers.table) ∧
        (sender = 15 → target ≠ s.startup.number → (kind = 8 ∨ target ≠ 0) →
          t = { s with
            now := s.now + dt
            line := { s.line with
              receiver := .hunting
              counters := { c with good := min 65535 (c.good + 1) } } }))

/-- In ON-LINE with no window running, the station not sending, no complete frame held, head e
(which HeadOfTheQueueIsBegunOrMostUrgent gives), and the idle count (log entry 7) at or past e's
quiet interval (10 + n, 30 + n or 50 + 2n bit times by class, and 8n more once an attempt
counts): ATTEMPT_BEGIN answers the state in which e is on the line with its attempt count one
higher, carrying the sequence number it holds or else the own one, a report marker its payload
of this moment; the bytes sent, from this moment on, are those of that frame, a report's payload
by its layout; a report's first attempt sets the last report's start time and clears the
periodic time; a partial frame being received is lost as broken; and nothing else but the clock
has changed. -/
def Obligations.AttemptBeginsAfterTheQuietInterval : Prop :=
  ∀ (s : State) (dt idle : Nat), (s.mode = .operating ∨ s.mode = .configFallback) →
    s.line.state = .onLine → s.line.window = .closed → s.line.sending = none →
    frameHeld s.line.receiver = none → ∀ e ∈ headEntry s,
    16 * waitBits e s.startup.number ≤ idle →
    s.line.idleFrom + 16 * waitBits e s.startup.number ≤ s.now + dt →
    let first := e.kind = .statusReport ∧ e.sequence = none
    let go := fun x : Entry => { x with
      attempts := x.attempts + 1
      sequence := some (x.sequence.getD s.line.sequence)
      payload := if x.kind = .statusReport ∧ x.sequence = none then reportLayout s else x.payload
      onLine := true }
    exec (.attemptBegin ⟨dt, idle⟩) s = .next { s with
      now := s.now + dt
      line := { s.line with
        report := s.line.report.map fun x => if x.order = e.order then go x else x
        queue := s.line.queue.map fun x => if x.order = e.order then go x else x
        sending := some (wireFrame e.kind.number s.startup.number e.kind.target
          (e.sequence.getD s.line.sequence) (go e).payload)
        sendingFrom := s.now + dt
        lastReportStart := if first then some (s.now + dt) else s.line.lastReportStart
        periodicAt := if first then none else s.line.periodicAt
        receiver := .hunting
        counters := { s.line.counters with
          broken := if s.line.receiver = .hunting then s.line.counters.broken
            else min 65535 (s.line.counters.broken + 1) } } }

/-- Where the line controller runs, with entry e on the line: COLLISION with a low read while a high
bit is sent answers a next state in which the line is released, the idle count is 0, the
receiver goes on from the own bytes whole by then, and the collision count is one higher; after
the eighth attempt e is dropped NOT SENT with the send-failure count one higher (a report ends,
an intent returns to NONE with forming waiting, an answer ends its wait); otherwise a withdrawal
held takes e from the queue and the own intent to NONE, and else e stays, off the line.
FRAME_SENT, once 10 × b bit times have passed since the attempt of b bytes began, answers one in
which the line is released, the receiver hunts, the idle count is 0, the own sequence number is
one higher and e has left the queue: a report's next periodic time is 2 s after its start time,
an answer ends its wait, and an intent's window of 400 ms opens with its entry in the
reservation list, unless the mode has left peer or an intent heard meanwhile has precedence.
Nothing else but the clock has changed. With a high read back COLLISION finds none and moves
only the clock. That an eighth collision goes before a withdrawal held, and that an intent sent
outside peer mode opens no window, are the model's reading (log entry 11, DEDUCED); that the
intent's return to NONE by the withdrawal is followed by no try in the same event is the model's
DESIGN CHOICE (log entry 56). -/
def Obligations.AttemptsEndInCollisionOrSent : Prop :=
  ∀ (s : State) (dt : Nat), (s.mode = .operating ∨ s.mode = .configFallback) →
    ∀ bytes ∈ s.line.sending, ∀ e ∈ (s.line.report.toList ++ s.line.queue).find? (·.onLine),
    let queueLess := s.line.queue.filter fun x => decide (x.order ≠ e.order)
    let ended := s.line.lastReportStart.map (· + 2000000)
    let bit := (s.now + dt - s.line.sendingFrom) / 16
    (levelOfBit bytes bit = some true → ∃ t, exec (.collision dt false) s = .next t ∧
      let l := { s.line with
        sending := none
        idleFrom := s.now + dt
        receiver := goesOnFrom s.line.sending (bit / 10)
        counters := { s.line.counters with
          collisions := min 65535 (s.line.counters.collisions + 1) } }
      t = (if 8 ≤ e.attempts then
          { s with
            now := s.now + dt
            line := { l with
              report := if e.kind = .statusReport then none else l.report
              periodicAt := if e.kind = .statusReport then ended else l.periodicAt
              queue := if e.kind = .statusReport then l.queue else queueLess
              counters := { l.counters with
                sendFailures := min 65535 (l.counters.sendFailures + 1) } }
            supply := if e.kind = .startIntent then
              { s.supply with intent := .none, formWaits := true } else s.supply
            tool := if e.kind = .stationAnswer then
              { s.tool with restart := answerOver e.tag s.tool.restart } else s.tool }
        else if e.withdraw then
          { s with
            now := s.now + dt
            line := { l with queue := queueLess }
            supply := { s.supply with intent := .none } }
        else
          { s with
            now := s.now + dt
            line := { l with
              report := l.report.map fun x =>
                if x.order = e.order then { x with onLine := false } else x
              queue := l.queue.map fun x =>
                if x.order = e.order then { x with onLine := false } else x } })) ∧
    (s.line.sendingFrom + 160 * bytes.length ≤ s.now + dt →
      ∃ t, exec (.frameSent dt) s = .next t ∧
      let u := { s with
        now := s.now + dt
        line := { s.line with
          sending := none
          idleFrom := s.now + dt
          receiver := .hunting
          sequence := s.line.sequence + 1
          report := if e.kind = .statusReport then none else s.line.report
          periodicAt := if e.kind = .statusReport then ended else s.line.periodicAt
          queue := if e.kind = .statusReport then s.line.queue else queueLess }
        tool := if e.kind = .stationAnswer then
          { s.tool with restart := answerOver e.tag s.tool.restart } else s.tool }
      match s.supply.intent with
      | .queued i heard =>
        if e.kind = .startIntent then
          let own := s.peers.reservations.filter fun r => decide (r.sender ≠ s.startup.number)
          let entry : Reservation :=
            ⟨s.startup.number, i.pump.val, i.inrush, i.urgency, s.now + dt⟩
          let lost := heard.any fun r => decide (i.urgency < r.urgency ∨
            (r.urgency = i.urgency ∧ r.sender < s.startup.number))
          t = { u with
            peers := { s.peers with
              reservations := if s.supply.mode = .peer ∧ lost = true then own
                else own ++ [entry] }
            supply := { s.supply with
              lastIntent := some (s.now + dt)
              intent := if s.supply.mode = .peer ∧ lost = false then
                .window i (s.now + dt + 400000) else .none
              deferrals := if s.supply.mode = .peer ∧ lost = true then
                min 65535 (s.supply.deferrals + 1) else s.supply.deferrals } }
        else t = u
      | _ => t = u) ∧
    exec (.collision dt true) s = .next { s with now := s.now + dt }

/-- Where the line controller runs, and one waiting frame at most is on the line (the law OneOnLine,
which every step keeps): LINE_FAULT in LISTEN or ON-LINE (a low read high only while a low bit
is sent, a stuck line only past 30 bit times low) answers a next state in LINE-FAULT with the
line released, ISLAND ended, the probe timer at 5 s, waiting SHED CALLs withdrawn, every other
frame but an intent kept, and, in normal operation, the budget mode of the line state and
window, the own intent withdrawn as it leaves peer; of a report or frame whose attempt was on
the line the attempt is uncounted and it stays where it was, off the line, or, where its
withdrawal was held, has left the queue with the own intent NONE; the idle count restarts and
the receiver goes on from the own bytes whole by then (log entry 42). PROBE_TIMER_EXPIRY in
LINE-FAULT with the timer run out answers, at an idle count of 100 bit times or more, a next
state in LISTEN while the window runs and else in ON-LINE, in ISLAND if the island timer stands
at 20 s, and below 100 only restarts the timer at 5 s. The window is unchanged in both: that it
runs on through LINE-FAULT, with what hangs on it, is read in log entry 10 (DEDUCED). Clock
apart, mode, settings, measurement, inputs, peer table, reports' times and the waiting commands
are unchanged, and pump records but for a start grant. -/
def Obligations.LineFaultAndProbeMoveTheLineState : Prop :=
  ∀ (s : State) (dt idle lowFor : Nat) (sign : LineFaultSign),
    (s.mode = .operating ∨ s.mode = .configFallback) → OneOnLine s →
    let now := s.now + dt
    let bit := (now - s.line.sendingFrom) / 16
    let onLine := (s.line.report.toList ++ s.line.queue).find? (·.onLine)
    let off := fun (e x : Entry) =>
      if x.order = e.order then { x with onLine := false, attempts := x.attempts - 1 } else x
    let kept := fun x : Entry => x.kind ≠ .startIntent ∧ (x.kind = .shedCall → x.sequence ≠ none)
    ((s.line.state = .listen ∨ s.line.state = .onLine) →
      (sign = .lowReadHigh → onLine ≠ none ∧
        ∃ bytes ∈ s.line.sending, levelOfBit bytes bit = some false) →
      (sign = .stuckLow → 480 < lowFor) →
      ∃ t, exec (.lineFault dt sign lowFor) s = .next t ∧
        t.line.state = .lineFault ∧ t.line.sending = none ∧ t.line.island = false ∧
        t.line.window = s.line.window ∧
        t.line.probeUntil = some (now + 5000000) ∧
        (∀ e ∈ t.line.queue, e.kind = .shedCall → e.sequence ≠ none) ∧
        (s.line.sending = none ∨ onLine = none → t.line.idleFrom = s.line.idleFrom ∧
          t.line.receiver = s.line.receiver ∧ t.line.report = s.line.report ∧
          ∀ x ∈ s.line.queue, kept x → x ∈ t.line.queue) ∧
        (s.line.sending ≠ none → ∀ e ∈ onLine, t.line.idleFrom = now ∧
          t.line.receiver = goesOnFrom s.line.sending (bit / 10) ∧
          (e.withdraw = false → t.line.report = s.line.report.map (off e) ∧
            ∀ x ∈ s.line.queue, kept x → off e x ∈ t.line.queue) ∧
          (e.withdraw = true → t.supply.intent = .none ∧
            ∀ x ∈ t.line.queue, x.order ≠ e.order)) ∧
        (s.mode = .operating → s.supply.mode = .peer → t.supply.intent = .none) ∧
        LineEventKept s t { s with now := now }) ∧
    (s.line.state = .lineFault → ∀ u ∈ s.line.probeUntil, u ≤ now →
      ∃ t, exec (.probeTimerExpiry dt idle) s = .next t ∧
        if 1600 ≤ idle ∧ s.line.idleFrom + 1600 ≤ now then
          t.line.probeUntil = none ∧ t.line.window = s.line.window ∧
          t.line.state = (if s.line.window = .closed then .onLine else .listen) ∧
          (s.line.window = .closed → (t.line.island = true ↔
            ∃ v ∈ s.line.islandFrom, v + 20000000 ≤ now)) ∧
          t.line.sending = s.line.sending ∧ t.line.receiver = s.line.receiver ∧
          LineEventKept s t { s with now := now }
        else t = { s with
          now := now
          line := { s.line with probeUntil := some (now + 5000000) } })

/-- Where the line controller runs: PERIODIC_REPORT_DUE with its time passed answers the state in
which that time is absent and the change-pending flag is set, unless a marker already waits;
REPORT_MARKER_PLACE with the flag set, the report place empty, 200 ms passed since the last
report's start if there is one, the line state ON-LINE or LINE-FAULT and no window running
answers the state in which a report marker without payload stands in the report place and the
flag is clear. Nothing else but the clock has changed. -/
def Obligations.ReportsFallDueAndBecomeMarkers : Prop :=
  ∀ (s : State) (dt : Nat), (s.mode = .operating ∨ s.mode = .configFallback) →
    (∀ u ∈ s.line.periodicAt, u ≤ s.now + dt →
      ∃ t, exec (.periodicReportDue dt) s = .next t ∧
        t = { s with
          now := s.now + dt
          line := { s.line with
            periodicAt := none
            changePending := if ∃ e ∈ s.line.report, e.sequence = none
              then s.line.changePending else true } }) ∧
    (s.line.changePending = true → s.line.report = none →
      (∀ u ∈ s.line.lastReportStart, u + 200000 ≤ s.now + dt) →
      (s.line.state = .onLine ∨ s.line.state = .lineFault) → s.line.window = .closed →
      ∃ t, exec (.reportMarkerPlace dt) s = .next t ∧
        t = { s with
          now := s.now + dt
          line := { s.line with
            changePending := false
            placed := s.line.placed + 1
            report := some { kind := .statusReport, placedAt := s.now + dt
                             order := s.line.placed, attempts := 0, sequence := none
                             payload := [], onLine := false, withdraw := false
                             tag := .plain } } })

/-- Where the line controller runs: LISTEN_WINDOW_END with the window run out answers a next state
with the window closed, LISTEN become ON-LINE (in ISLAND with the island timer at 20 s) and any
other line state kept, a report due, and, in normal operation, each pump stranded in RETRY-WAIT
with room in its history WAITING with its next attempt number (log entry 20, DEDUCED);
ISLAND_START in ON-LINE with the island timer at 20 s answers one in ISLAND; CLASH_TIMER_EXPIRY
in CLASH with its timer run out answers one in LISTEN with a new window of 2.5 s. In normal
operation the budget mode is then the one that line state and window give. Clock apart, mode,
settings, measurement, inputs, peer table, reports' times and the waiting commands are
unchanged, and pump records but for a start grant. -/
def Obligations.LineStatesFollowTheirTimes : Prop :=
  ∀ (s : State) (dt : Nat), (s.mode = .operating ∨ s.mode = .configFallback) →
    (∀ u ∈ (match s.line.window with | .opened u => some u | _ => none), u ≤ s.now + dt →
      ∃ t, exec (.listenWindowEnd dt) s = .next t ∧
        t.line.window = .closed ∧
        (s.line.state ≠ .listen → t.line.state = s.line.state ∧ t.line.island = s.line.island) ∧
        (s.line.state = .listen → t.line.state = .onLine ∧ (t.line.island = true ↔
          ∃ v ∈ s.line.islandFrom, v + 20000000 ≤ s.now + dt)) ∧
        (s.line.report = none → t.line.changePending = true) ∧
        LineEventKept s t { s with
          now := s.now + dt
          pumps := ⟨s.pumps.pump.map (retryReleased (s.now + dt) s), s.pumps.duty⟩ }) ∧
    (s.line.state = .onLine → s.line.island = false →
      ∀ v ∈ s.line.islandFrom, v + 20000000 ≤ s.now + dt →
      ∃ t, exec (.islandStart dt) s = .next t ∧
        t.line.island = true ∧ t.line.state = .onLine ∧ t.line.window = s.line.window ∧
        LineEventKept s t { s with now := s.now + dt }) ∧
    (s.line.state = .clash → ∀ u ∈ s.line.clashUntil, u ≤ s.now + dt →
      ∃ t, exec (.clashTimerExpiry dt) s = .next t ∧
        t.line.state = .listen ∧ t.line.window = .opened (s.now + dt + 2500000) ∧
        t.line.clashUntil = none ∧ LineEventKept s t { s with now := s.now + dt })

/-- Where a whole frame can arrive and the peer view's law holds (each station once, in rising
order), from a sender 1 to 14 other than the own number, each of the five rows answers a next
state in which the frame is counted good with the gaps it shows, its sender's entry alone has
changed in the table, the island timer is at 0 and ISLAND has ended: STATUS_REPORT_RECEIVED (12
bytes) sets stage, claim unless the load is unknown, fallback flag and report contents, of the
fault flags the twelve named ones; STAGE_CALL_RECEIVED sets the stage, at most 4;
START_INTENT_RECEIVED puts its reservation at the list's tail in place of an older one of its
sender, and no other station's reservation but the own one may leave; SHED_CALL_RECEIVED is
recorded in normal operation, and where no claim, stage or mode changes with it raises the shed
offset by 20 to at most 180 if a sheddable circuit stands above its floor, further only by a
short event of this moment, and leaves it otherwise; STATION_ANSWER_RECEIVED (4 to 40 bytes)
adds nothing. M is the greatest of the local stage and the table's stages if the stage held for
the sender has changed. The order of these effects is the model's (log entry 26, DEDUCED), and a
pump index is kept as the intent carried it (log entry 43). -/
def Obligations.PeerFramesBringTheirContents : Prop :=
  ∀ (s : State) (dt : Nat) (sender : Fin 16) (seq stage pump urgency attempt : Byte)
    (amount : BitVec 16) (payload : List Byte),
    Peers s → LineHears s → sender.val ≠ 0 → sender.val ≠ 15 →
    (sender.val ≠ s.startup.number ∨ strapFault s = true) →
    let e := heard (s.now + dt) sender.val seq (peerEntry s sender.val)
    let b := fun i => (payload.getD i 0).toNat
    (payload.length = 12 →
      ∃ t, exec (.statusReportReceived dt sender seq payload) s = .next t ∧
        PeerHeard (s.now + dt) sender.val seq { e with
          stage := some (min 4 (b 0))
          claim := if b 9 / 8 % 2 = 1 then e.claim else some (b 2 * 256 + b 3)
          fallback := decide (b 9 / 2 % 2 = 1)
          report := some ⟨b 1, b 4, decide (b 9 % 2 = 1),
            BitVec.ofNat 12 (b 10 * 256 + b 11)⟩ } s t ∧
        (e.stage ≠ some (min 4 (b 0)) →
          t.stage.maximum = max s.stage.localStage (peersMaximum t))) ∧
    (∃ t, exec (.stageCallReceived dt sender seq stage) s = .next t ∧
      PeerHeard (s.now + dt) sender.val seq { e with stage := some (min 4 stage.toNat) } s t ∧
      (e.stage ≠ some (min 4 stage.toNat) →
        t.stage.maximum = max s.stage.localStage (peersMaximum t))) ∧
    (∃ t, exec (.startIntentReceived dt sender seq pump amount urgency attempt) s = .next t ∧
      PeerHeard (s.now + dt) sender.val seq e s t ∧
      (let joined := s.peers.reservations.filter (fun r => decide (r.sender ≠ sender.val)) ++
          [⟨sender.val, pump.toNat, amount.toNat, min 4 urgency.toNat, s.now + dt⟩];
        t.peers.reservations = joined ∨ t.peers.reservations =
          joined.filter fun r => decide (r.sender ≠ s.startup.number))) ∧
    (∃ t, exec (.shedCallReceived dt sender seq amount urgency) s = .next t ∧
      PeerHeard (s.now + dt) sender.val seq e s t ∧
      t.peers.reservations = s.peers.reservations ∧
      (s.mode = .operating →
        t.supply.lastShed = some ⟨sender.val, amount.toNat, urgency.toNat⟩ ∧
        (s.supply.mode = budgetModeOf s → s.line.island = false →
          if canShed s = true then
            min 180 (s.supply.shedOffset + 20) ≤ t.supply.shedOffset ∧
            (t.supply.shedOffset ≤ max s.supply.shedOffset (min 180 (s.supply.shedOffset + 20)) ∨
              (s.supply.shedCallUntil = none ∧
                t.supply.shedCallUntil = some (s.now + dt + 4000000) ∧
                t.supply.shedOffset ≤ 180))
          else t.supply.shedOffset = s.supply.shedOffset))) ∧
    (4 ≤ payload.length → payload.length ≤ 40 →
      ∃ t, exec (.stationAnswerReceived dt sender seq payload) s = .next t ∧
        PeerHeard (s.now + dt) sender.val seq e s t ∧
        t.peers.reservations = s.peers.reservations)

/-- Where a whole frame can arrive and the straps are not at fault: OWN_NUMBER_FRAME_RECEIVED of a
station's kind with a length its kind allows answers a next state with the good and own-number
counts one higher and the peer table and island timer as they were; in CLASH the list is as it
was; otherwise an empty list holds this moment and the line state is kept, and a list that holds
a time is emptied and the line state is CLASH, with the line released, queue and report place
empty, the change-pending flag clear unless what is handed on has then changed the shed offset
or a gate's state, the window closed, in normal operation each pump stranded in RETRY-WAIT with
room in its history WAITING with its next attempt number as at any end of the window (log entry
20), the CLASH timer at 60 s and one queue drop for each frame of the five places. 'Within 20 s'
is any time that the list still holds (log entry 38). OWN_NUMBER_LIST_EXPIRY of a time 20 s old
answers the state in which it alone has left. Clock, mode, settings, measurement and inputs are
otherwise unchanged. -/
def Obligations.OwnNumberFramesBringTheClash : Prop :=
  ∀ (s : State) (dt : Nat) (kind : Byte) (target : Fin 16) (seq : Byte) (payload : List Byte),
    (LineHears s → strapFault s = false → 1 ≤ s.startup.number → s.startup.number ≤ 14 →
      kind.toNat ∈ [1, 2, 3, 4, 10] → lengthAllowed kind.toNat payload.length = true →
      ∃ t, exec (.ownNumberFrameReceived dt kind target seq payload) s = .next t ∧
        t.line.counters.good = min 65535 (s.line.counters.good + 1) ∧
        t.line.counters.ownNumber = min 65535 (s.line.counters.ownNumber + 1) ∧
        t.peers.table = s.peers.table ∧ t.line.islandFrom = s.line.islandFrom ∧
        t.now = s.now + dt ∧ t.mode = s.mode ∧ t.startup = s.startup ∧ t.meas = s.meas ∧
        t.inputs = s.inputs ∧ t.pending = s.pending ∧
        (s.line.state = .clash → t.peers = s.peers ∧ t.line.state = .clash ∧ t.pumps = s.pumps) ∧
        (s.line.state ≠ .clash → s.peers.ownNumber = [] →
          t.peers.ownNumber = [s.now + dt] ∧ t.line.state = s.line.state ∧
          t.line.queue = s.line.queue ∧ t.supply = s.supply ∧ t.pumps = s.pumps) ∧
        (s.line.state ≠ .clash → s.peers.ownNumber ≠ [] →
          t.peers.ownNumber = [] ∧ t.line.state = .clash ∧ t.line.island = false ∧
          t.line.sending = none ∧ t.line.queue = [] ∧ t.line.report = none ∧
          (t.line.changePending = true → t.supply.shedOffset ≠ s.supply.shedOffset ∨
            ∃ c, (t.gate c).state ≠ (s.gate c).state) ∧
          t.line.window = .closed ∧
          PumpsHeld { s with
            now := s.now + dt
            pumps := ⟨s.pumps.pump.map (retryReleased (s.now + dt) s), s.pumps.duty⟩ } t ∧
          t.line.clashUntil = some (s.now + dt + 60000000) ∧
          t.line.counters.queueDrops =
            min 65535 (s.line.counters.queueDrops + s.line.queue.length) ∧
          (s.mode = .operating → t.supply.mode = .island))) ∧
    ((s.mode = .operating ∨ s.mode = .configFallback) → ∀ u ∈ s.peers.ownNumber.head?,
      u + 20000000 ≤ s.now + dt →
      exec (.ownNumberListExpiry dt) s = .next { s with
        now := s.now + dt
        peers := { s.peers with ownNumber := s.peers.ownNumber.tail } })

/-- Where the line controller runs: PEER_STALE of a station whose last frame lies 6 s back answers
the state in which its entry alone is STALE; PEER_REMOVAL of one whose last frame lies 20 s back
answers a next state in which it has no entry and every other entry stands, M being the greatest
of the local stage and the table's stages; RESERVATION_EXPIRY of a sender whose reservation has
stood for S answers a next state in which its reservation alone has left the list. Clock, mode,
settings, measurement, inputs, the line's states and timers and the waiting commands are
otherwise unchanged, and pump records but for a start grant. -/
def Obligations.PeersAndReservationsAge : Prop :=
  ∀ (s : State) (dt : Nat) (n : Fin 16), (s.mode = .operating ∨ s.mode = .configFallback) →
    (∀ e ∈ peerEntry s n.val,
      (e.lastFrame + 6000000 ≤ s.now + dt →
        exec (.peerStale dt n) s = .next { s with
          now := s.now + dt
          peers := { s.peers with table := s.peers.table.map fun x =>
            if x.station = n.val then { x with stale := true } else x } }) ∧
      (e.lastFrame + 20000000 ≤ s.now + dt →
        ∃ t, exec (.peerRemoval dt n) s = .next t ∧
          t.peers = { s.peers with
            table := s.peers.table.filter fun x => decide (x.station ≠ n.val) } ∧
          t.stage.maximum = max s.stage.localStage (peersMaximum t) ∧
          PeerAgingKept { s with now := s.now + dt } t)) ∧
    (∀ r ∈ reservationOf s n.val,
      r.arrival + s.settings.spacing * 1000000 ≤ s.now + dt →
      ∃ t, exec (.reservationExpiry dt n) s = .next t ∧
        t.peers = { s.peers with
          reservations := s.peers.reservations.filter fun x => decide (x.sender ≠ n.val) } ∧
        t.stage.maximum = s.stage.maximum ∧ t.stage.site = s.stage.site ∧
        PeerAgingKept { s with now := s.now + dt } t)

/-- With change v of the supply-mode input waiting, SUPPLY_MODE_CHANGE answers a next state in which
its filter has handed v on; in normal operation and configuration fallback a report is asked for
(in fallback by log entry 32, DEDUCED), in normal operation H is the headroom of the new budget,
and beyond that only what handing on may change has changed. In normal operation with no own
intent in being and S passed since the last, INTENT_SPACING_ELAPSED answers: with a candidate,
forming not waiting for a level update, peer mode, an empty reservation list and H at or above
P_in, an intent with the candidate, P_in, the local stage as urgency and its attempt number,
QUEUED in the transmit queue where a place is free, or in the place of the answer placed
earliest of those not in progress, which is then NOT SENT, one queue drop more, or, with no
place and no such answer, refused: intent NONE, forming waiting, one queue drop more; in every
other case only the clock has changed. -/
def Obligations.SupplyModeAndSpacingReachTheHeadroomAndTheIntent : Prop :=
  ∀ (s : State) (dt : Nat),
    ((s.mode = .operating ∨ s.mode = .configFallback ∨ s.mode = .clockFallback) →
      ∀ v ∈ s.inputs.supplyMode.waiting.head?,
      ∃ t, exec (.supplyModeChange dt) s = .next t ∧
        t.inputs = { s.inputs with supplyMode := filterTaken v s.inputs.supplyMode } ∧
        (s.mode = .operating → t.supply.headroom = headroomOf t ∧ ReportAsked t ∧
          Handed { s with now := s.now + dt, inputs := t.inputs } t) ∧
        (s.mode = .configFallback → ReportAsked t ∧ t = { s with
          now := s.now + dt
          inputs := t.inputs
          line := { s.line with changePending := t.line.changePending } }) ∧
        (s.mode = .clockFallback → t = { s with now := s.now + dt, inputs := t.inputs })) ∧
    (s.mode = .operating → Headroom s → s.supply.intent = .none →
      ∀ u ∈ s.supply.lastIntent, u + s.settings.spacing * 1000000 ≤ s.now + dt →
      let m := { s with now := s.now + dt }
      let ready := s.supply.formWaits = false ∧ s.supply.mode = .peer ∧
        s.peers.reservations = [] ∧ (s.settings.pIn : Int) ≤ s.supply.headroom
      (candidate s = none ∨ ¬ ready → exec (.intentSpacingElapsed dt) s = .next m) ∧
      (ready → ∀ p ∈ candidate s,
        let i : Intent := ⟨p, s.settings.pIn, s.stage.localStage, (s.pump p).attempt.getD 1⟩
        let e : Entry := {
          kind := .startIntent, placedAt := s.now + dt, order := s.line.placed, attempts := 0
          sequence := none, payload := intentPayload i, onLine := false, withdraw := false
          tag := .plain }
        (s.line.queue.length < 5 → exec (.intentSpacingElapsed dt) s = .next { m with
          supply := { s.supply with intent := .queued i [] }
          line := { s.line with
            placed := s.line.placed + 1, queue := s.line.queue ++ [e] } }) ∧
        (∀ before x after, s.line.queue = before ++ x :: after → 5 ≤ s.line.queue.length →
          x.kind = .stationAnswer → x.sequence = none →
          (∀ y ∈ before ++ after, y.order ≠ x.order ∧
            (y.kind = .stationAnswer → y.sequence = none → x.order < y.order)) →
          exec (.intentSpacingElapsed dt) s = .next { m with
            supply := { s.supply with intent := .queued i [] }
            tool := { s.tool with restart := answerOver x.tag s.tool.restart }
            line := { s.line with
              placed := s.line.placed + 1
              queue := before ++ after ++ [e]
              counters := { s.line.counters with
                queueDrops := min 65535 (s.line.counters.queueDrops + 1) } } }) ∧
        (5 ≤ s.line.queue.length →
          (∀ e ∈ s.line.queue, e.kind = .stationAnswer → e.sequence ≠ none) →
          exec (.intentSpacingElapsed dt) s = .next { m with
            supply := { s.supply with intent := .none, formWaits := true }
            line := { s.line with counters := { s.line.counters with
              queueDrops := min 65535 (s.line.counters.queueDrops + 1) } } })))

/-- In normal operation: INTENT_WINDOW_EXPIRY of a window that has run out answers a next state in
which the own intent is NONE; with H at or above P_in and pump control's conditions met (the
named pump in WAITING, the low float WET, no pump in STARTING, room in its history) the pump is
in STARTING, its contactor energised, this moment joins its history and is the time of the last
own start, and P_in is in the load; otherwise nothing but the clock and the intent has changed.
ENTRY_WAIT_EXPIRY and START_SPACING_ELAPSED, once their time has run out in island mode, grant
the candidate the same way where the other's condition holds too, H covers P_in and its history
has room; otherwise nothing but the clock and the entry wait has changed. -/
def Obligations.StartGrantsNeedTheirTimesAndTheHeadroom : Prop :=
  ∀ (s : State) (dt : Nat), s.mode = .operating →
    let m := { s with now := s.now + dt }
    let covers := (s.settings.pIn : Int) ≤ s.supply.headroom
    let room := fun p => (s.pump p).history.length < s.settings.startsPerHour
    let spaced := ∀ u ∈ s.supply.lastStart, u + s.settings.spacing * 1000000 ≤ s.now + dt
    let waited := { m with supply := { s.supply with entryWait := none } }
    (match s.supply.intent with
      | .window i u => u ≤ s.now + dt →
        let ended := { m with supply := { s.supply with intent := .none } }
        let taken := covers ∧ (s.pump i.pump).state = .waiting ∧ lowWet s = true ∧
          (∀ q, (s.pump q).state ≠ .starting) ∧ room i.pump
        (¬ taken → exec (.intentWindowExpiry dt) s = .next ended) ∧
        (taken → ∃ t, exec (.intentWindowExpiry dt) s = .next t ∧
          StartGranted i.pump ended t ∧ t.supply.intent = .none ∧ contactor t i.pump = true)
      | _ => True) ∧
    (∀ u ∈ s.supply.entryWait, u ≤ s.now + dt →
      let taken := covers ∧ spaced ∧ s.supply.mode = .island
      (candidate s = none ∨ ¬ taken → exec (.entryWaitExpiry dt) s = .next waited) ∧
      (∀ p ∈ candidate s, (taken ∧ room p → ∃ t, exec (.entryWaitExpiry dt) s = .next t ∧
          StartGranted p waited t ∧ contactor t p = true) ∧
        (¬ room p → exec (.entryWaitExpiry dt) s = .next waited))) ∧
    (s.supply.mode = .island →
      (∃ u ∈ s.supply.lastStart, u + s.settings.spacing * 1000000 ≤ s.now + dt) →
      let taken := covers ∧ s.supply.entryWait = none
      (candidate s = none ∨ ¬ taken → exec (.startSpacingElapsed dt) s = .next m) ∧
      (∀ p ∈ candidate s, (taken ∧ room p → ∃ t, exec (.startSpacingElapsed dt) s = .next t ∧
          StartGranted p m t ∧ contactor t p = true) ∧
        (¬ room p → exec (.startSpacingElapsed dt) s = .next m)))

/-- In normal operation with each timer run out: OWN_SHORTFALL_TIMER_EXPIRY answers a next state in
which the offset has risen by 20, up to 180, or by 40 where a short event handed on has raised
it again and so started the SHED CALL timer, which did not run, at 4 s; and the timer runs anew
for 2 s or is absent with H not below 0. SHED_CALL_TIMER_EXPIRY with the station short raises it
by 20, up to 180, starts its timer at 4 s, leaves no restore timer but one at 60 s and, ON-LINE
with at most three frames waiting and the station still short, leaves a SHED CALL of P_in - H
(at most 65535) and the local stage untried in the queue; not short it only becomes absent.
RESTORE_TIMER_EXPIRY leaves the offset 20 lower (at least 0), or raised again by 20 by a short
event of this moment, and the timer at 60 s exactly when the offset is above 0 and H at or above
the margin. A changed offset has asked for a report and set every duty, and beyond that only
what handing on may change has changed. -/
def Obligations.ShedTimersMoveTheOffsetByTwenty : Prop :=
  ∀ (s : State) (dt : Nat), s.mode = .operating →
    let m := { s with now := s.now + dt }
    (∀ u ∈ s.supply.shortfallUntil, u ≤ s.now + dt → s.supply.mode ≠ .none →
      ∃ t, exec (.ownShortfallTimerExpiry dt) s = .next t ∧
        (OffsetRaised 20 m t ∨ (OffsetRaised 40 m t ∧ s.supply.shedCallUntil = none ∧
          t.supply.shedCallUntil = some (s.now + dt + 4000000))) ∧
        (t.supply.shortfallUntil = some (s.now + dt + 2000000) ∨
          (t.supply.shortfallUntil = none ∧ 0 ≤ t.supply.headroom))) ∧
    (∀ u ∈ s.supply.shedCallUntil, u ≤ s.now + dt →
      let isShort := candidate s ≠ none ∧ s.supply.headroom < s.settings.pIn ∧
        s.supply.mode ≠ .none
      (¬ isShort → exec (.shedCallTimerExpiry dt) s = .next
        { m with supply := { s.supply with shedCallUntil := none } }) ∧
      (isShort → ∃ t, exec (.shedCallTimerExpiry dt) s = .next t ∧ OffsetRaised 20 m t ∧
        t.supply.shedCallUntil = some (s.now + dt + 4000000) ∧
        (∀ v ∈ t.supply.restoreUntil, v = s.now + dt + 60000000) ∧
        (s.line.state = .onLine → s.line.window = .closed → s.line.queue.length ≤ 3 →
          candidate t ≠ none → t.supply.headroom < t.settings.pIn →
          ∃ e ∈ t.line.queue, e.kind = .shedCall ∧ e.sequence = none ∧
            e.payload = shedPayload (min 65535 ((s.settings.pIn : Int) - s.supply.headroom).toNat)
              s.stage.localStage))) ∧
    (∀ u ∈ s.supply.restoreUntil, u ≤ s.now + dt →
      ∃ t, exec (.restoreTimerExpiry dt) s = .next t ∧
        HandedOn m t ∧ PumpsHeld m t ∧ GatesHeld m t ∧
        (t.supply.shedOffset = s.supply.shedOffset - 20 ∨
          (t.supply.shedOffset = min 180 (s.supply.shedOffset - 20 + 20) ∧
            s.supply.shedCallUntil = none ∧
            t.supply.shedCallUntil = some (s.now + dt + 4000000))) ∧
        t.supply.restoreUntil =
          (if 0 < t.supply.shedOffset ∧ (s.settings.restoreMargin : Int) ≤ t.supply.headroom
            then some (s.now + dt + 60000000) else none) ∧
        (0 < s.supply.shedOffset → ReportAsked t ∧ t.lights.duty = dutiesOf t))

/-- With change v of its input waiting, GATE_LIMIT_CHANGE and OBSTRUCTION_CHANGE answer a next state
in which the filter has handed v on. In normal operation channel c, unless not fitted or in
FAULT, is then: in FAULT LIMIT-CONFLICT with both limits stably ACTIVE, received or not; at a
limit become ACTIVE, OPEN or CLOSED from the travel, halted travel or UNKNOWN it ends; at a
limit that has let go of OPEN or CLOSED, in FAULT DRIFT where a drift time is held, else re-
driven with this moment as drift time (a closing; an opening, HELD under the hold key, or
UNKNOWN at site stage 3 or 4); at an obstruction become ACTIVE, SUSPENDED from CLOSING, and at
one become CLEAR its clear time begins. The closing rules and openings are then tried, a change
of state asks for a report, the load is handed on, and only what handing on may change has
changed beside. In either fallback nothing but clock and filter has. That UNKNOWN takes a
position and keeps a request is log entry 19, that the rules and openings are tried at every
gate event log entry 16 (both DEDUCED), that a limit counts as it becomes ACTIVE log entry 46. -/
def Obligations.LimitsAndObstructionsMoveTheirChannel : Prop :=
  ∀ (s : State) (dt : Nat) (c : Fin 2) (l : LimitId),
    (s.mode = .operating ∨ s.mode = .configFallback ∨ s.mode = .clockFallback) →
    let now := s.now + dt
    let g := s.gate c
    let i := s.inputs.gate.get c
    (∀ v ∈ (limitFilter s c l).waiting.head?,
      ∃ t, exec (.gateLimitChange dt c l) s = .next t ∧
        t.inputs = { s.inputs with gate := s.inputs.gate.set c (match l with
          | .openLimit => { i with openLimit := filterTaken v i.openLimit }
          | .closedLimit => { i with closedLimit := filterTaken v i.closedLimit }) } ∧
        let m := { s with now := now, inputs := t.inputs }
        let drifted := { g with driftAt := some now }
        (s.mode ≠ .operating → t = m) ∧
        (s.mode = .operating → GateEvent m (onlyAt s c (
          if g.state = .notFitted ∨ g.state = .fault then g
          else if limitActive t c .openLimit = true ∧ limitActive t c .closedLimit = true then
            faulted .limitConflict now g
          else if v = .active then
            match l, g.state, g.direction with
            | .openLimit, .opening, _ | .openLimit, .unknown, _
            | .openLimit, .held, some .open_ => arrivedAt .opened now g
            | .closedLimit, .closing, _ | .closedLimit, .unknown, _ | .closedLimit, .suspended, _
            | .closedLimit, .held, some .close => arrivedAt .closed now g
            | _, _, _ => g
          else match l, g.state with
            | .openLimit, .opened =>
              if g.driftAt ≠ none then faulted .drift now g
              else if 3 ≤ s.stage.site then arrivedAt .unknown now (requestKept drifted)
              else if holdActive s = true then
                { stoppedIn .held now drifted with used := 0, direction := some .open_ }
              else openBegun now drifted
            | .closedLimit, .closed =>
              if g.driftAt ≠ none then faulted .drift now g
              else closeBegun (holdActive s) (obstructed s c || !closingAllowed s c) now drifted
            | _, _ => g)) t)) ∧
    (∀ v ∈ i.obstruction.waiting.head?,
      ∃ t, exec (.obstructionChange dt c) s = .next t ∧
        t.inputs = { s.inputs with
          gate := s.inputs.gate.set c { i with obstruction := filterTaken v i.obstruction } } ∧
        let m := { s with now := now, inputs := t.inputs }
        let lane := requestKept { g with
          clearSince := if v = .inactive then some now else none }
        (s.mode ≠ .operating → t = m) ∧
        (s.mode = .operating → GateEvent m (onlyAt s c
          (if v = .active ∧ g.state = .closing then stoppedIn .suspended now lane
            else lane)) t))

/-- With its change waiting, each key's row answers a next state in which its filter has handed it
on. In normal operation: GATE_HOLD_PRESS puts every channel in CLOSING, OPENING or SUSPENDED in
HELD with direction and travel used kept; GATE_HOLD_RELEASE puts a HELD closing in SUSPENDED
where its obstruction input is stably ACTIVE (received or not) or its interlock does not hold
and otherwise in CLOSING, and a HELD opening in OPENING, travel used kept;
FORCE_CLOSE_KEY_CHANGE changes no record of itself; REOPEN_KEY at site stage 0 or 1 gives each
flood gate in CLOSED or UNKNOWN a reopen request, and is ignored at 2 or more. The closing rules
and openings are then tried, a change of state asks for a report, the load is handed on, and
only what handing on may change has changed beside. In either fallback nothing but the clock and
the filter has changed. The flood gate under the hold key is log entry 19's reading, the rules
and openings tried at every key event log entry 16's (both DEDUCED). -/
def Obligations.KeysHoldReleaseForceAndReopen : Prop :=
  ∀ (s : State) (dt : Nat),
    (s.mode = .operating ∨ s.mode = .configFallback ∨ s.mode = .clockFallback) →
    let now := s.now + dt
    (s.inputs.holdKey.waiting.head? = some .active →
      ∃ t, exec (.gateHoldPress dt) s = .next t ∧
        let m := { s with
          now := now, inputs := { s.inputs with holdKey := filterTaken .active s.inputs.holdKey } }
        (s.mode ≠ .operating → t = m) ∧
        (s.mode = .operating → GateEvent m (fun c => match (s.gate c).state with
          | .closing | .opening | .suspended => stoppedIn .held now (s.gate c)
          | _ => s.gate c) t)) ∧
    (s.inputs.holdKey.waiting.head? = some .inactive →
      ∃ t, exec (.gateHoldRelease dt) s = .next t ∧
        let m := { s with
          now := now, inputs := { s.inputs with holdKey := filterTaken .inactive s.inputs.holdKey } }
        (s.mode ≠ .operating → t = m) ∧
        (s.mode = .operating → GateEvent m (fun c => match (s.gate c).state, (s.gate c).direction with
          | .held, some .close =>
            if (s.inputs.gate.get c).obstruction.stable = some .active ∨
                closingAllowed s c = false then
              requestKept { s.gate c with state := .suspended }
            else travelling .close now (s.gate c)
          | .held, some .open_ => travelling .open_ now (s.gate c)
          | _, _ => s.gate c) t)) ∧
    (∀ v ∈ s.inputs.forceCloseKey.waiting.head?,
      ∃ t, exec (.forceCloseKeyChange dt) s = .next t ∧
        let m := { s with
          now := now
          inputs := { s.inputs with forceCloseKey := filterTaken v s.inputs.forceCloseKey } }
        (s.mode ≠ .operating → t = m) ∧
        (s.mode = .operating → GateEvent m s.gate t)) ∧
    (s.inputs.reopenKey.waiting.head? = some .active →
      ∃ t, exec (.reopenKey dt) s = .next t ∧
        let m := { s with
          now := now, inputs := { s.inputs with reopenKey := filterTaken .active s.inputs.reopenKey } }
        (s.mode ≠ .operating ∨ 2 ≤ s.stage.site → t = m) ∧
        (s.mode = .operating → s.stage.site ≤ 1 → GateEvent m (fun c =>
          if gateKind s c = .floodgate ∧ ((s.gate c).state = .closed ∨ (s.gate c).state = .unknown)
          then { s.gate c with reopen := true } else s.gate c) t))

/-- In normal operation: DEAD_TIME_END with channel c in CLOSING or OPENING, its drive off and the
other drive dropped 500 ms ago puts its drive on; TRAVEL_TIMEOUT with a drive on and the travel
used at or past the travel limit puts it in FAULT with cause TRAVEL, its drive dropped and its
direction kept; OBSTRUCTION_CLEAR_3S with the lane stably clear for 3 s and no change waiting,
OBSTRUCTION_CLEAR_5S with it so for 5 s, and LOW_STAGE_TIME_ELAPSED with the low-stage time 60 s
old change no record of themselves; each then tries the closing rules and the openings (after
the dead time's end and the travel timeout by log entry 16, DEDUCED), a change of state asks for
a report, the load is handed on, and only what handing on may change has changed beside.
DRIFT_TIME_LAPSE of a drift time 10 min old answers the state in which it alone is absent. -/
def Obligations.GateTimesDriveResumeOpenAndFail : Prop :=
  ∀ (s : State) (dt : Nat) (c : Fin 2), s.mode = .operating →
    let now := s.now + dt
    let m := { s with now := now }
    let g := s.gate c
    (g.state = .closing → g.drive = none → (∀ o ∈ g.openDropped, o + 500000 ≤ now) →
      ∃ t, exec (.deadTimeEnd dt c) s = .next t ∧
        GateEvent m (onlyAt s c (requestKept
          { g with drive := some .close, driveFrom := now })) t) ∧
    (g.state = .opening → g.drive = none → (∀ o ∈ g.closeDropped, o + 500000 ≤ now) →
      ∃ t, exec (.deadTimeEnd dt c) s = .next t ∧
        GateEvent m (onlyAt s c (requestKept
          { g with drive := some .open_, driveFrom := now })) t) ∧
    (g.drive ≠ none →
      (s.settings.gate.get c).travelLimit * 1000000 ≤ g.used + (now - g.driveFrom) →
      ∃ t, exec (.travelTimeout dt c) s = .next t ∧
        GateEvent m (onlyAt s c (faulted .travel now g)) t) ∧
    (laneClear s c = true → ∀ u ∈ g.clearSince, u + 3000000 ≤ now →
      ∃ t, exec (.obstructionClear3s dt c) s = .next t ∧ GateEvent m s.gate t) ∧
    (laneClear s c = true → ∀ u ∈ g.clearSince, u + 5000000 ≤ now →
      ∃ t, exec (.obstructionClear5s dt c) s = .next t ∧ GateEvent m s.gate t) ∧
    (∀ u ∈ s.gates.lowStageAt, u + 60000000 ≤ now →
      ∃ t, exec (.lowStageTimeElapsed dt) s = .next t ∧ GateEvent m s.gate t) ∧
    (∀ u ∈ g.driftAt, u + 600000000 ≤ now →
      exec (.driftTimeLapse dt c) s = .next { m with gates := { s.gates with
        channel := s.gates.channel.set c (requestKept { g with driftAt := none }) } })

/-- With change v of the day/night input waiting, DAY_NIGHT_CHANGE answers a next state in which its
filter has handed v on; in normal operation every dimming output then stands at its circuit's
applied duty, with its load handed on where a duty changed. In normal operation with the step
set to k, ENTRANCE_STEP_MOVE with an up run that has lasted 30 s at the last scan end answers a
next state with step k + 1, and with a down run of 30 s and no such up run one with step k - 1,
both runs absent and every output at its applied duty. Where no duty changes nothing else has,
and beyond that only what handing on may change has changed. In either fallback nothing but the
clock and the filter has changed. -/
def Obligations.DayNightAndEntranceStepSetTheDuties : Prop :=
  ∀ (s : State) (dt : Nat),
    ((s.mode = .operating ∨ s.mode = .configFallback ∨ s.mode = .clockFallback) →
      ∀ v ∈ s.inputs.dayNight.waiting.head?,
      ∃ t, exec (.dayNightChange dt) s = .next t ∧
        let m := { s with
          now := s.now + dt
          inputs := { s.inputs with dayNight := filterTaken v s.inputs.dayNight } }
        (s.mode ≠ .operating ∨ dutiesOf m = s.lights.duty → t = m) ∧
        (s.mode = .operating → dutiesOf m ≠ s.lights.duty →
          HandedOn m t ∧ PumpsHeld m t ∧ GatesHeld m t ∧ t.lights.duty = dutiesOf t ∧
            t.lights.load = lightingLoad s.settings t.lights.duty ∧
            t.supply.load = committedLoad t)) ∧
    (s.mode = .operating → ∀ k ∈ s.lights.step, ∀ v ∈ s.meas.lastScan,
      let up := ∃ u ∈ s.lights.upRun, u + 30000000 ≤ v
      let down := ∃ u ∈ s.lights.downRun, u + 30000000 ≤ v
      (up ∨ down) →
      ∃ t, exec (.entranceStepMove dt) s = .next t ∧
        let m := { s with
          now := s.now + dt
          lights := { s.lights with
            step := some (if up then k + 1 else k - 1), upRun := none, downRun := none } }
        (dutiesOf m = s.lights.duty → t = m) ∧
        (dutiesOf m ≠ s.lights.duty →
          HandedOn m t ∧ PumpsHeld m t ∧ GatesHeld m t ∧ t.lights.duty = dutiesOf t ∧
            t.lights.load = lightingLoad s.settings t.lights.duty ∧
            t.supply.load = committedLoad t))

/-- In normal operation with the dwell timer run out, DWELL_TIMER_EXPIRY answers the state in which
the entry index is one higher, or 0 after the last entry of the program, the dwell timer is
loaded with the dwell of the scene that entry names, and each output has that scene's mode in
the present half of the flash clock; FLASH_CLOCK_HALF, 500 ms after the last change of half,
answers the state in which the half has changed, the next change lies 500 ms after this one, and
each output is set afresh from the shown scene (on for ON, in the first half for FLASH, in the
second for FLASH-INVERTED). In configuration fallback the flash clock turns too, and the outputs
stay as they are (log entry 48, DEDUCED). Nothing else but the clock has changed. -/
def Obligations.SignsMoveAtTheirDwellAndFlashInHalves : Prop :=
  ∀ (s : State) (dt : Nat),
    let drive := fun (first : Bool) (sc : Scene) => sc.modes.map fun x => match x with
      | .off => false | .on => true | .flash => first | .flashInverted => !first
    let program := s.settings.program.getD s.signs.stage []
    let next := if s.signs.entry + 1 < program.length then s.signs.entry + 1 else 0
    let sceneOf := fun e => (program[e]?).bind fun n => s.settings.scene[n]?
    (s.mode = .operating → ∀ u ∈ s.signs.dwellUntil, u ≤ s.now + dt → ∀ sc ∈ sceneOf next,
      exec (.dwellTimerExpiry dt) s = .next { s with
        now := s.now + dt
        signs := { s.signs with
          entry := next
          dwellUntil := some (s.now + dt + sc.dwell * 500000)
          output := drive s.signs.firstHalf sc } }) ∧
    (∀ u ∈ s.signs.flashAt, u ≤ s.now + dt →
      (s.mode = .operating → ∀ sc ∈ sceneOf s.signs.entry,
        exec (.flashClockHalf dt) s = .next { s with
          now := s.now + dt
          signs := { s.signs with
            firstHalf := !s.signs.firstHalf
            flashAt := some (u + 500000)
            output := drive (!s.signs.firstHalf) sc } }) ∧
      (s.mode = .configFallback → exec (.flashClockHalf dt) s = .next { s with
        now := s.now + dt
        signs := { s.signs with
          firstHalf := !s.signs.firstHalf, flashAt := some (u + 500000) } }))

/-- RESET answers the state of every block after reset with the event's cause recorded, held where
the event is the reset pin or the pin holds the part already (by log entry 24, DEDUCED, also
where another cause comes while it holds), and otherwise with the oscillator start timer at 20
ms. CLOCK_RETURN in clock fallback, 20 ms or more after the clock was last found absent, answers
the same with cause CLOCK, before that only the clock moves; and RESTART_BEGIN, where the line
controller runs and the restart waits for nothing more (log entry 33), with cause RESTART.
RESET_PIN_RELEASE of a held part answers the state in which start-up begins with the oscillator
start timer at 20 ms and nothing else but the clock has changed. The clock, the waiting commands
and the count of free values, which are the model's own, go on through every reset (log entry
30). -/
def Obligations.EveryResetLeavesTheSameState : Prop :=
  ∀ (s : State) (dt : Nat) (event : ResetEvent),
    exec (.reset dt event) s = .next (resetLeaves
      (decide (event = .resetPin ∨ s.mode = .held))
      (match event with
        | .powerOn => .powerOn
        | .brownOut => .brownOut
        | .resetPin => .resetPin) (s.now + dt) s) ∧
    (s.mode = .clockFallback → ∀ u ∈ s.startup.clockMissed,
      exec (.clockReturn dt) s = .next (if u + 20000 ≤ s.now + dt
        then resetLeaves false .clock (s.now + dt) s else { s with now := s.now + dt })) ∧
    ((s.mode = .operating ∨ s.mode = .configFallback) →
      s.tool.restart = some ⟨false, false⟩ →
      exec (.restartBegin dt) s = .next (resetLeaves false .restart (s.now + dt) s)) ∧
    (s.mode = .held → exec (.resetPinRelease dt) s = .next { s with
      now := s.now + dt
      mode := .oscillator
      startup := { s.startup with oscillatorUntil := some (s.now + dt + 20000) } })

/-- OSCILLATOR_START_TIMER with the timer run out and the main clock running answers the state in
which the straps' number is read and the image is being read, the read command with address 0 on
the memory port, nothing else but the clock and the timer changed. IMAGE_READ_COMPLETE answers a
next state in which the image status is ABSENT for 256 bytes of one value 0x00 or 0xFF, else
INVALID for a wrong marker, version or CRC; in which VALID and CLAMPED lead to normal operation
and the others to configuration fallback; in which the LISTEN window runs for 2.5 s, or without
end where the number is 0 or 15; and in which pumps below the pump count are DISABLED and
channels of a kind UNKNOWN, the others not fitted. In normal operation the low-stage time is
this moment, the signs show entry 0 of program 0, the steps in use are the table's and every
output stands at its applied duty; in configuration fallback (steps in use 1 to 8, log entry 12)
the speed reference is 255, the lights at 200, the signs off. Cause, number, clock and waiting
commands are kept. -/
def Obligations.StartUpReadsStrapsJudgesTheImageAndListens : Prop :=
  ∀ (s : State) (dt : Nat) (straps : BitVec 4) (image : List Byte),
    (s.mode = .oscillator → ∀ u ∈ s.startup.oscillatorUntil, u ≤ s.now + dt →
      exec (.oscillatorStartTimer dt true straps) s = .next { s with
        now := s.now + dt
        mode := .image
        startup := { s.startup with
          number := straps.toNat, strapsRead := true, oscillatorUntil := none }
        tool := { s.tool with port := [[0x03, 0x00]] } }) ∧
    (s.mode = .image → image.length = 256 →
      ∃ t, exec (.imageReadComplete dt image) s = .next t ∧
        t.startup.imageStatus = some (judgeImage image) ∧
        (image = List.replicate 256 0x00 ∨ image = List.replicate 256 0xFF →
          judgeImage image = .absent) ∧
        (image ≠ List.replicate 256 0x00 → image ≠ List.replicate 256 0xFF →
          (image.take 3 ≠ [0xC3, 0x4D, 0x01] ∨
            (crc16 (image.take 254)).toNat ≠
              (image.getD 254 0).toNat * 256 + (image.getD 255 0).toNat) →
          judgeImage image = .invalid) ∧
        (t.mode = if judgeImage image = .valid ∨ judgeImage image = .clamped
          then .operating else .configFallback) ∧
        t.line.state = .listen ∧ t.line.window = (if strapFault s = true then .endless
          else .opened (s.now + dt + 2500000)) ∧
        t.startup.cause = s.startup.cause ∧ t.startup.number = s.startup.number ∧
        t.now = s.now + dt ∧ t.pending = s.pending ∧ t.stage.site = 0 ∧ t.meas.level = none ∧
        (∀ p, t.pump p = Pump.reset
          (if p.val < t.settings.pumpCount then .disabled else .notFitted)) ∧
        (∀ c, t.gate c = Gate.reset
          (if gateKind t c = .none then .notFitted else .unknown)) ∧
        (t.mode = .operating → t.gates.lowStageAt = some (s.now + dt) ∧
          t.signs.stage = 0 ∧ t.signs.entry = 0 ∧
          t.lights.duty = dutiesOf t ∧ t.lights.steps = stepsInUse t.settings ∧
          t.supply.load = committedLoad t) ∧
        t.meas.sampleFrom = some (s.now + dt) ∧ t.meas.lastScan = none ∧
        t.signs.firstHalf = true ∧ t.signs.flashAt = some (s.now + dt + 500000) ∧
        t.lights.step = none ∧ 1 ≤ t.lights.steps ∧ t.lights.steps ≤ 8 ∧
        (t.mode = .configFallback → t.stage.speedReference = 255 ∧
          t.lights.duty = ⟨200, 200, 200, 200, 200, 200, 200, 200⟩ ∧
          t.signs.output = ⟨false, false, false, false, false, false, false, false⟩ ∧
          t.fallback.run = none))

/-- IMAGE_READ_COMPLETE of a 256-byte image answers a next state t. With status VALID or CLAMPED its
settings are those the image gives: every numeric field of R186's table, at its offset and size
with the high byte first, brought to the nearer limit of its range, the five thresholds to the
span as clamped and P_in to P_run or more; the four options by their bits; a gate or circuit
kind code beyond the known kinds taken as NONE or UNUSED; each scene's eight modes two bits an
output; each program as long as its length brought to 1 to 16, two entries a byte with the even
one in the low four bits; the thresholds are then in order, and the status is VALID exactly
where every field lay in its range and every kind was known. The thresholds brought to the span
as clamped, and P_in to P_run as clamped, are log entry 18 (DEDUCED). With INVALID the same
settings stand with S at 5 s and D at 120 s, and where marker, version and CRC are right the
thresholds are out of order. With ABSENT nothing is fitted, and S and D have those defaults. -/
def Obligations.TheImageGivesTheSettings : Prop :=
  ∀ (s : State) (dt : Nat) (image : List Byte), s.mode = .image → image.length = 256 →
    ∃ t, exec (.imageReadComplete dt image) s = .next t ∧
        (judgeImage image = .valid ∨ judgeImage image = .clamped →
          SettingsGiven image t.settings ∧ t.settings.t0 < t.settings.t1 ∧
          t.settings.t1 < t.settings.t2 ∧ t.settings.t2 < t.settings.t3 ∧
          t.settings.t3 < t.settings.t4 ∧ t.settings.t4 ≤ t.settings.span ∧
          (judgeImage image = .valid ↔ FieldsInRange image t.settings)) ∧
        (judgeImage image = .invalid → t.settings.spacing = 5 ∧ t.settings.descentHold = 120 ∧
          ∃ c, SettingsGiven image c ∧
            t.settings = { c with spacing := 5, descentHold := 120 } ∧
            (image.take 3 = [0xC3, 0x4D, 0x01] → (crc16 (image.take 254)).toNat =
                (image.getD 254 0).toNat * 256 + (image.getD 255 0).toNat →
              ¬ (c.t0 < c.t1 ∧ c.t1 < c.t2 ∧ c.t2 < c.t3 ∧ c.t3 < c.t4 ∧ c.t4 ≤ c.span))) ∧
        (judgeImage image = .absent → t.settings.sumpFitted = false ∧
          t.settings.pumpCount = 0 ∧ (∀ c, gateKind t c = .none) ∧
          t.settings.spacing = 5 ∧ t.settings.descentHold = 120)

/-- MAIN_CLOCK_LOSS with the image being read, in normal operation or in configuration fallback, and
OSCILLATOR_START_TIMER without the main clock (the straps read first), answer a next state in
clock fallback: gate drives and signs off, lights at 200, speed reference 255, n_req 0, the
level LOST, all seven analog values invalid, the line released and this moment the one the clock
was last found absent at; a fallback run in progress goes on, and otherwise one begins at this
moment if a contactor was energised or the high float reports WET, with the energised outputs'
times taken as passed; pump records, peers, supply and stages stand. MAIN_CLOCK_LOSS in clock
fallback answers the state in which this moment alone is the one the clock was last found absent
at. FALLBACK_OUTPUT_TIME in a fallback, at the run's start plus 2 n + 5 i seconds, answers the
state in which output i's time has passed, so that it is energised where its selector input, as
handed on, is AUTO or HAND and the low float reports WET. The sampling of the digital inputs
goes on from the last one, or from this moment where no scan had begun (log entry 49), and
FALLBACK_INPUT_SAMPLE in clock fallback, 20 ms after the last, answers the state in which every
digital input has taken one sample at this moment. Nothing else but the clock has changed. -/
def Obligations.ClockFallbackRunsOnTheFloats : Prop :=
  ∀ (s : State) (dt : Nat) (straps : BitVec 4) (i : Fin 4) (pins : Pins),
    let fallen := fun (u t : State) =>
      t.mode = .clockFallback ∧ t.now = s.now + dt ∧
      t.startup = { u.startup with clockMissed := some (s.now + dt) } ∧
      (∀ c, (t.gate c).drive = none ∧ (t.gate c).state = (s.gate c).state) ∧
      t.signs.output = ⟨false, false, false, false, false, false, false, false⟩ ∧
      t.lights = { s.lights with duty := ⟨200, 200, 200, 200, 200, 200, 200, 200⟩ } ∧
      t.stage = { s.stage with wanted := 0, speedReference := 255 } ∧
      t.meas = { s.meas with
        codeA := none, codeB := none, current := ⟨none, none, none, none⟩, luminance := none
        level := none, source := .lost, levelDue := false
        sampleFrom := some (s.meas.sampleFrom.getD (s.now + dt)) } ∧
      t.line.sending = none ∧ t.line.state = s.line.state ∧
      t.fallback = (if s.fallback.run ≠ none then s.fallback
        else if (∃ p, contactor s p = true) ∨ highWet s = true then
          ⟨some (s.now + dt), ⟨contactor s 0, contactor s 1, contactor s 2, contactor s 3⟩⟩
        else s.fallback) ∧
      t.pumps = s.pumps ∧ t.peers = s.peers ∧ t.supply = s.supply ∧ t.inputs = s.inputs ∧
      t.pending = s.pending
    ((s.mode = .image ∨ s.mode = .operating ∨ s.mode = .configFallback) →
      ∃ t, exec (.mainClockLoss dt) s = .next t ∧ fallen s t) ∧
    (s.mode = .clockFallback → exec (.mainClockLoss dt) s = .next { s with
      now := s.now + dt
      startup := { s.startup with clockMissed := some (s.now + dt) } }) ∧
    (s.mode = .oscillator → ∀ u ∈ s.startup.oscillatorUntil, u ≤ s.now + dt →
      ∃ t, exec (.oscillatorStartTimer dt false straps) s = .next t ∧
        fallen { s with startup := { s.startup with
          number := straps.toNat, strapsRead := true, oscillatorUntil := none } } t) ∧
    ((s.mode = .configFallback ∨ s.mode = .clockFallback) →
      ∀ r ∈ s.fallback.run,
      r + s.startup.number * 2000000 + i.val * 5000000 ≤ s.now + dt →
      ∃ t, exec (.fallbackOutputTime dt i) s = .next t ∧
        t = { s with
          now := s.now + dt
          fallback := { s.fallback with passed := s.fallback.passed.set i true } } ∧
        (contactor t i = true ↔ lowWet s = true ∧
          ((s.inputs.selector.get i).given = some .auto ∨
            (s.inputs.selector.get i).given = some .hand))) ∧
    (s.mode = .clockFallback → ∀ u ∈ s.meas.sampleFrom, u + 20000 ≤ s.now + dt →
      ∃ t, exec (.fallbackInputSample dt pins) s = .next t ∧
      InputsSampled (FloatsSampled s) pins s.inputs t.inputs ∧
      t = { s with
        now := s.now + dt, inputs := t.inputs
        meas := { s.meas with sampleFrom := some (s.now + dt) } })

/-- For every state s: the station-fault relay is energised exactly in normal operation while none
of the listed faults is present (fallback of either kind, STRAP, image status INVALID or ABSENT,
LINE-FAULT or CLASH, the converter FAULTED, level LOST at a sump station, a pump in LOCKED-OUT,
a channel in FAULT, CHATTER on a float or the probe, DISAGREE). The fault flags of a report are
the bits of R183's table, below 4096: bit 0 the converter FAULTED, bits 1 and 2 and bits 3 and 4
the two loops' fault states, bit 5 DISAGREE, bit 6 CHATTER, bit 7 level LOST at a sump station,
bit 8 a pump in LOCKED-OUT, bit 9 a channel in FAULT, bit 10 STRAP, bit 11 image status INVALID
or ABSENT. The worst pump a report names is the lowest index of the fitted pumps with the
highest trouble count, with that count, and pump 0 with count 0 where none is fitted. -/
def Obligations.RelayAndFaultFlagsFollowTheFaults : Prop :=
  ∀ s : State,
    (relayEnergised s = true ↔ s.mode = .operating ∧ ¬ FaultPresent s) ∧
    faultFlags s = faultBits s ∧ faultFlags s < 4096 ∧
    ((faultFlags s).testBit 0 = true ↔ s.meas.faulted = true) ∧
    (faultFlags s / 2 % 4 = loopFaultStates.idxOf s.meas.loopA.fault) ∧
    (faultFlags s / 8 % 4 = loopFaultStates.idxOf s.meas.loopB.fault) ∧
    ((faultFlags s).testBit 5 = true ↔ s.meas.disagree = true) ∧
    ((faultFlags s).testBit 6 = true ↔ AnyChatter s) ∧
    ((faultFlags s).testBit 7 = true ↔ LevelLost s) ∧
    ((faultFlags s).testBit 8 = true ↔ ∃ p, (s.pump p).state = .lockedOut) ∧
    ((faultFlags s).testBit 9 = true ↔ ∃ c, (s.gate c).state = .fault) ∧
    ((faultFlags s).testBit 10 = true ↔ StrapFault s) ∧
    ((faultFlags s).testBit 11 = true ↔ ImageBad s) ∧
    ((∀ p, (s.pump p).state = .notFitted) → worstPump s = (0, 0)) ∧
    ((∃ p, (s.pump p).state ≠ .notFitted) → ∃ p : Fin 4, worstPump s = (p.val, (s.pump p).trouble) ∧
      (s.pump p).state ≠ .notFitted ∧ ∀ q : Fin 4, (s.pump q).state ≠ .notFitted →
        (s.pump q).trouble ≤ (s.pump p).trouble ∧
        (q < p → (s.pump q).trouble < (s.pump p).trouble))

/-- For every state s in which the frames wait in their order of placing (the law PlacedInOrder,
which every step keeps), over the report place and the five places together: there is no head
exactly where nothing waits; the head is one of the frames that wait; and a frame that waits is
the head exactly if its first attempt has begun, or none has and it is of the most urgent class
present (STAGE CALL 1; START INTENT and SHED CALL 2; report and answer 3) and of that class the
one placed earliest, of two placed in one moment the one with the lower number (log entry 39,
DESIGN CHOICE). -/
def Obligations.HeadOfTheQueueIsBegunOrMostUrgent : Prop :=
  ∀ (s : State), PlacedInOrder s →
    (headEntry s = none ↔ waitingFrames s = []) ∧ (∀ e ∈ headEntry s, e ∈ waitingFrames s) ∧
      ∀ e ∈ waitingFrames s, (headEntry s = some e ↔ LeadsTheQueue s e)

/-- For every state s in which the frames wait in their order of placing (the law PlacedInOrder):
LEVEL_UPDATE that is due, in normal operation and configuration fallback, and there and in clock
fallback FLOAT_STATE_CHANGE with a change waiting and CHATTER_QUIET_TIMER of an input in CHATTER
with its timer run out, answer a next state t. Where the line controller runs: if the local
stage has changed, a report is asked for; if it has risen from below 3 to 3 or 4, or from 3 to
4, outside LISTEN, CLASH and the window, one STAGE CALL with the new local stage as its one
payload byte is handed to the queue: placed behind those that waited where one of five places is
free, placed with the answer placed earliest of those not in progress dropped where none is, and
refused where no answer may be displaced, a drop or refusal being counted (after dry-run
protection in the same event one of these, by the queue that it left); in every other case the
STAGE CALLs that wait are as before. In clock fallback the line is as before. That the call
meets the queue as it stands before M and the site stage follow (log entry 50), when the stage
is evaluated (log entry 2), that dry-run protection comes before it (log entry 62), and the
call's number (log entry 39) are the model's DESIGN CHOICES. -/
def Obligations.ChangedLocalStagesAskForAReportAndRisesCall : Prop :=
  ∀ (s : State) (dt : Nat) (w : WaterInput), PlacedInOrder s →
    ((s.mode = .operating ∨ s.mode = .configFallback) →
      (s.meas.levelDue = true → ∃ t, exec (.levelUpdate dt) s = .next t ∧ StageToldOn s t) ∧
      ((waterFilter s w).waiting ≠ [] →
        ∃ t, exec (.floatStateChange dt w) s = .next t ∧ StageToldOn s t) ∧
      ((waterChatter s w).chatter = true → (∃ u ∈ (waterChatter s w).quietUntil, u ≤ s.now + dt) →
        ∃ t, exec (.chatterQuietTimer dt w) s = .next t ∧ StageToldOn s t)) ∧
    (s.mode = .clockFallback →
      ((waterFilter s w).waiting ≠ [] →
        ∃ t, exec (.floatStateChange dt w) s = .next t ∧ t.line = s.line) ∧
      ((waterChatter s w).chatter = true → (∃ u ∈ (waterChatter s w).quietUntil, u ≤ s.now + dt) →
        ∃ t, exec (.chatterQuietTimer dt w) s = .next t ∧ t.line = s.line))
end

