-- ==== Sys2Proof/Laws/Events.lean ====
section
/-! SUPPORT. What a command can answer: always a next state, with its effect where its event has come and
with the clock alone moved where it has not (log entry 2). -/

namespace Sys2Proof.Machine

/-- Where the guard holds, the command has its effect. -/
theorem takeEvent_of_guard {guard : State → Bool} {effect : State → State} {dt : Nat} {s : State}
    (h : guard (advance dt s) = true) :
    takeEvent guard effect dt s = .next (effect (advance dt s)) := by
  simp only [takeEvent, h, if_true]

/-- Where the guard does not hold, only the clock moves. -/
theorem takeEvent_of_not {guard : State → Bool} {effect : State → State} {dt : Nat} {s : State}
    (h : guard (advance dt s) = false) :
    takeEvent guard effect dt s = .next (advance dt s) := by
  simp only [takeEvent, h, Bool.false_eq_true, if_false]

/-- A command's outcome is a next state, the one of its effect or the one of the clock alone. -/
theorem takeEvent_cases (guard : State → Bool) (effect : State → State) (dt : Nat) (s : State) :
    (guard (advance dt s) = true ∧ takeEvent guard effect dt s = .next (effect (advance dt s))) ∨
      (guard (advance dt s) = false ∧ takeEvent guard effect dt s = .next (advance dt s)) := by
  cases h : guard (advance dt s)
  · exact .inr ⟨rfl, takeEvent_of_not h⟩
  · exact .inl ⟨rfl, takeEvent_of_guard h⟩

end Sys2Proof.Machine
end

