-- ==== Sys2Proof/Laws/State.lean ====
section
/-! SUPPORT. One lemma for each field and each update of the state by a named operation, so that no proof
unfolds the update; and the reading of a container after a place was set. -/

namespace Sys2Proof

@[simp] theorem Two.get_set {α : Type} (t : Two α) (c d : Fin 2) (a : α) :
    (t.set c a).get d = if d = c then a else t.get d := by
  match c, d with
  | 0, 0 | 0, 1 | 1, 0 | 1, 1 => rfl

theorem Two.set_get {α : Type} (t : Two α) (c : Fin 2) : t.set c (t.get c) = t := by
  match c with
  | 0 | 1 => rfl

@[simp] theorem Two.get_map {α β : Type} (f : α → β) (t : Two α) (c : Fin 2) :
    (t.map f).get c = f (t.get c) := by
  match c with
  | 0 | 1 => rfl

theorem Two.ext_get {α : Type} {t u : Two α} (h : ∀ c, t.get c = u.get c) : t = u := by
  have h0 := h 0
  have h1 := h 1
  cases t
  cases u
  simp only [Two.get] at h0 h1
  subst h0 h1
  rfl

@[simp] theorem Four.get_set {α : Type} (t : Four α) (p q : Fin 4) (a : α) :
    (t.set p a).get q = if q = p then a else t.get q := by
  match p, q with
  | 0, 0 | 0, 1 | 0, 2 | 0, 3 | 1, 0 | 1, 1 | 1, 2 | 1, 3
  | 2, 0 | 2, 1 | 2, 2 | 2, 3 | 3, 0 | 3, 1 | 3, 2 | 3, 3 => rfl

theorem Four.set_get {α : Type} (t : Four α) (p : Fin 4) : t.set p (t.get p) = t := by
  match p with
  | 0 | 1 | 2 | 3 => rfl

@[simp] theorem Four.get_map {α β : Type} (f : α → β) (t : Four α) (p : Fin 4) :
    (t.map f).get p = f (t.get p) := by
  match p with
  | 0 | 1 | 2 | 3 => rfl

theorem Four.ext_get {α : Type} {t u : Four α} (h : ∀ p, t.get p = u.get p) : t = u := by
  have h0 := h 0
  have h1 := h 1
  have h2 := h 2
  have h3 := h 3
  cases t
  cases u
  simp only [Four.get] at h0 h1 h2 h3
  subst h0 h1 h2 h3
  rfl

end Sys2Proof

namespace Sys2Proof.Machine

@[simp] theorem advance_now (s : State) (dt : Nat) :
    (advance dt s).now = s.now + dt := rfl

@[simp] theorem advance_mode (s : State) (dt : Nat) :
    (advance dt s).mode = s.mode := rfl

@[simp] theorem advance_startup (s : State) (dt : Nat) :
    (advance dt s).startup = s.startup := rfl

@[simp] theorem advance_fallback (s : State) (dt : Nat) :
    (advance dt s).fallback = s.fallback := rfl

@[simp] theorem advance_meas (s : State) (dt : Nat) :
    (advance dt s).meas = s.meas := rfl

@[simp] theorem advance_inputs (s : State) (dt : Nat) :
    (advance dt s).inputs = s.inputs := rfl

@[simp] theorem advance_stage (s : State) (dt : Nat) :
    (advance dt s).stage = s.stage := rfl

@[simp] theorem advance_pumps (s : State) (dt : Nat) :
    (advance dt s).pumps = s.pumps := rfl

@[simp] theorem advance_line (s : State) (dt : Nat) :
    (advance dt s).line = s.line := rfl

@[simp] theorem advance_peers (s : State) (dt : Nat) :
    (advance dt s).peers = s.peers := rfl

@[simp] theorem advance_supply (s : State) (dt : Nat) :
    (advance dt s).supply = s.supply := rfl

@[simp] theorem advance_gates (s : State) (dt : Nat) :
    (advance dt s).gates = s.gates := rfl

@[simp] theorem advance_lights (s : State) (dt : Nat) :
    (advance dt s).lights = s.lights := rfl

@[simp] theorem advance_signs (s : State) (dt : Nat) :
    (advance dt s).signs = s.signs := rfl

@[simp] theorem advance_tool (s : State) (dt : Nat) :
    (advance dt s).tool = s.tool := rfl

@[simp] theorem advance_free (s : State) (dt : Nat) :
    (advance dt s).free = s.free := rfl

@[simp] theorem advance_pending (s : State) (dt : Nat) :
    (advance dt s).pending = s.pending := rfl

@[simp] theorem setGateInputs_now (s : State) (c : Fin 2) (g : GateInputs) :
    (setGateInputs c g s).now = s.now := rfl

@[simp] theorem setGateInputs_mode (s : State) (c : Fin 2) (g : GateInputs) :
    (setGateInputs c g s).mode = s.mode := rfl

@[simp] theorem setGateInputs_startup (s : State) (c : Fin 2) (g : GateInputs) :
    (setGateInputs c g s).startup = s.startup := rfl

@[simp] theorem setGateInputs_fallback (s : State) (c : Fin 2) (g : GateInputs) :
    (setGateInputs c g s).fallback = s.fallback := rfl

@[simp] theorem setGateInputs_meas (s : State) (c : Fin 2) (g : GateInputs) :
    (setGateInputs c g s).meas = s.meas := rfl

@[simp] theorem setGateInputs_inputs (s : State) (c : Fin 2) (g : GateInputs) :
    (setGateInputs c g s).inputs = { s.inputs with gate := s.inputs.gate.set c g } := rfl

@[simp] theorem setGateInputs_stage (s : State) (c : Fin 2) (g : GateInputs) :
    (setGateInputs c g s).stage = s.stage := rfl

@[simp] theorem setGateInputs_pumps (s : State) (c : Fin 2) (g : GateInputs) :
    (setGateInputs c g s).pumps = s.pumps := rfl

@[simp] theorem setGateInputs_line (s : State) (c : Fin 2) (g : GateInputs) :
    (setGateInputs c g s).line = s.line := rfl

@[simp] theorem setGateInputs_peers (s : State) (c : Fin 2) (g : GateInputs) :
    (setGateInputs c g s).peers = s.peers := rfl

@[simp] theorem setGateInputs_supply (s : State) (c : Fin 2) (g : GateInputs) :
    (setGateInputs c g s).supply = s.supply := rfl

@[simp] theorem setGateInputs_gates (s : State) (c : Fin 2) (g : GateInputs) :
    (setGateInputs c g s).gates = s.gates := rfl

@[simp] theorem setGateInputs_lights (s : State) (c : Fin 2) (g : GateInputs) :
    (setGateInputs c g s).lights = s.lights := rfl

@[simp] theorem setGateInputs_signs (s : State) (c : Fin 2) (g : GateInputs) :
    (setGateInputs c g s).signs = s.signs := rfl

@[simp] theorem setGateInputs_tool (s : State) (c : Fin 2) (g : GateInputs) :
    (setGateInputs c g s).tool = s.tool := rfl

@[simp] theorem setGateInputs_free (s : State) (c : Fin 2) (g : GateInputs) :
    (setGateInputs c g s).free = s.free := rfl

@[simp] theorem setGateInputs_pending (s : State) (c : Fin 2) (g : GateInputs) :
    (setGateInputs c g s).pending = s.pending := rfl

@[simp] theorem putPump_now (s : State) (p : Fin 4) (r : Pump) :
    (putPump p r s).now = s.now := rfl

@[simp] theorem putPump_mode (s : State) (p : Fin 4) (r : Pump) :
    (putPump p r s).mode = s.mode := rfl

@[simp] theorem putPump_startup (s : State) (p : Fin 4) (r : Pump) :
    (putPump p r s).startup = s.startup := rfl

@[simp] theorem putPump_fallback (s : State) (p : Fin 4) (r : Pump) :
    (putPump p r s).fallback = s.fallback := rfl

@[simp] theorem putPump_meas (s : State) (p : Fin 4) (r : Pump) :
    (putPump p r s).meas = s.meas := rfl

@[simp] theorem putPump_inputs (s : State) (p : Fin 4) (r : Pump) :
    (putPump p r s).inputs = s.inputs := rfl

@[simp] theorem putPump_stage (s : State) (p : Fin 4) (r : Pump) :
    (putPump p r s).stage = s.stage := rfl

@[simp] theorem putPump_pumps (s : State) (p : Fin 4) (r : Pump) :
    (putPump p r s).pumps = { s.pumps with pump := s.pumps.pump.set p r } := rfl

@[simp] theorem putPump_line (s : State) (p : Fin 4) (r : Pump) :
    (putPump p r s).line = s.line := rfl

@[simp] theorem putPump_peers (s : State) (p : Fin 4) (r : Pump) :
    (putPump p r s).peers = s.peers := rfl

@[simp] theorem putPump_supply (s : State) (p : Fin 4) (r : Pump) :
    (putPump p r s).supply = s.supply := rfl

@[simp] theorem putPump_gates (s : State) (p : Fin 4) (r : Pump) :
    (putPump p r s).gates = s.gates := rfl

@[simp] theorem putPump_lights (s : State) (p : Fin 4) (r : Pump) :
    (putPump p r s).lights = s.lights := rfl

@[simp] theorem putPump_signs (s : State) (p : Fin 4) (r : Pump) :
    (putPump p r s).signs = s.signs := rfl

@[simp] theorem putPump_tool (s : State) (p : Fin 4) (r : Pump) :
    (putPump p r s).tool = s.tool := rfl

@[simp] theorem putPump_free (s : State) (p : Fin 4) (r : Pump) :
    (putPump p r s).free = s.free := rfl

@[simp] theorem putPump_pending (s : State) (p : Fin 4) (r : Pump) :
    (putPump p r s).pending = s.pending := rfl

@[simp] theorem putGate_now (s : State) (c : Fin 2) (g : Gate) :
    (putGate c g s).now = s.now := rfl

@[simp] theorem putGate_mode (s : State) (c : Fin 2) (g : Gate) :
    (putGate c g s).mode = s.mode := rfl

@[simp] theorem putGate_startup (s : State) (c : Fin 2) (g : Gate) :
    (putGate c g s).startup = s.startup := rfl

@[simp] theorem putGate_fallback (s : State) (c : Fin 2) (g : Gate) :
    (putGate c g s).fallback = s.fallback := rfl

@[simp] theorem putGate_meas (s : State) (c : Fin 2) (g : Gate) :
    (putGate c g s).meas = s.meas := rfl

@[simp] theorem putGate_inputs (s : State) (c : Fin 2) (g : Gate) :
    (putGate c g s).inputs = s.inputs := rfl

@[simp] theorem putGate_stage (s : State) (c : Fin 2) (g : Gate) :
    (putGate c g s).stage = s.stage := rfl

@[simp] theorem putGate_pumps (s : State) (c : Fin 2) (g : Gate) :
    (putGate c g s).pumps = s.pumps := rfl

@[simp] theorem putGate_line (s : State) (c : Fin 2) (g : Gate) :
    (putGate c g s).line = s.line := rfl

@[simp] theorem putGate_peers (s : State) (c : Fin 2) (g : Gate) :
    (putGate c g s).peers = s.peers := rfl

@[simp] theorem putGate_supply (s : State) (c : Fin 2) (g : Gate) :
    (putGate c g s).supply = s.supply := rfl

@[simp] theorem putGate_gates (s : State) (c : Fin 2) (g : Gate) :
    (putGate c g s).gates = { s.gates with channel := s.gates.channel.set c (settleReopen g) } := rfl

@[simp] theorem putGate_lights (s : State) (c : Fin 2) (g : Gate) :
    (putGate c g s).lights = s.lights := rfl

@[simp] theorem putGate_signs (s : State) (c : Fin 2) (g : Gate) :
    (putGate c g s).signs = s.signs := rfl

@[simp] theorem putGate_tool (s : State) (c : Fin 2) (g : Gate) :
    (putGate c g s).tool = s.tool := rfl

@[simp] theorem putGate_free (s : State) (c : Fin 2) (g : Gate) :
    (putGate c g s).free = s.free := rfl

@[simp] theorem putGate_pending (s : State) (c : Fin 2) (g : Gate) :
    (putGate c g s).pending = s.pending := rfl

@[simp] theorem refreshSpeed_now (s : State) :
    (refreshSpeed s).now = s.now := rfl

@[simp] theorem refreshSpeed_mode (s : State) :
    (refreshSpeed s).mode = s.mode := rfl

@[simp] theorem refreshSpeed_startup (s : State) :
    (refreshSpeed s).startup = s.startup := rfl

@[simp] theorem refreshSpeed_fallback (s : State) :
    (refreshSpeed s).fallback = s.fallback := rfl

@[simp] theorem refreshSpeed_meas (s : State) :
    (refreshSpeed s).meas = s.meas := rfl

@[simp] theorem refreshSpeed_inputs (s : State) :
    (refreshSpeed s).inputs = s.inputs := rfl

@[simp] theorem refreshSpeed_pumps (s : State) :
    (refreshSpeed s).pumps = s.pumps := rfl

@[simp] theorem refreshSpeed_line (s : State) :
    (refreshSpeed s).line = s.line := rfl

@[simp] theorem refreshSpeed_peers (s : State) :
    (refreshSpeed s).peers = s.peers := rfl

@[simp] theorem refreshSpeed_supply (s : State) :
    (refreshSpeed s).supply = s.supply := rfl

@[simp] theorem refreshSpeed_gates (s : State) :
    (refreshSpeed s).gates = s.gates := rfl

@[simp] theorem refreshSpeed_lights (s : State) :
    (refreshSpeed s).lights = s.lights := rfl

@[simp] theorem refreshSpeed_signs (s : State) :
    (refreshSpeed s).signs = s.signs := rfl

@[simp] theorem refreshSpeed_tool (s : State) :
    (refreshSpeed s).tool = s.tool := rfl

@[simp] theorem refreshSpeed_free (s : State) :
    (refreshSpeed s).free = s.free := rfl

@[simp] theorem refreshSpeed_pending (s : State) :
    (refreshSpeed s).pending = s.pending := rfl

@[simp] theorem enterStarting_now (s : State) (p : Fin 4) :
    (enterStarting p s).now = s.now := rfl

@[simp] theorem enterStarting_mode (s : State) (p : Fin 4) :
    (enterStarting p s).mode = s.mode := rfl

@[simp] theorem enterStarting_startup (s : State) (p : Fin 4) :
    (enterStarting p s).startup = s.startup := rfl

@[simp] theorem enterStarting_fallback (s : State) (p : Fin 4) :
    (enterStarting p s).fallback = s.fallback := rfl

@[simp] theorem enterStarting_meas (s : State) (p : Fin 4) :
    (enterStarting p s).meas = s.meas := rfl

@[simp] theorem enterStarting_inputs (s : State) (p : Fin 4) :
    (enterStarting p s).inputs = s.inputs := rfl

@[simp] theorem enterStarting_stage (s : State) (p : Fin 4) :
    (enterStarting p s).stage = s.stage := rfl

@[simp] theorem enterStarting_line (s : State) (p : Fin 4) :
    (enterStarting p s).line = s.line := rfl

@[simp] theorem enterStarting_peers (s : State) (p : Fin 4) :
    (enterStarting p s).peers = s.peers := rfl

@[simp] theorem enterStarting_supply (s : State) (p : Fin 4) :
    (enterStarting p s).supply = { s.supply with lastStart := some s.now } := rfl

@[simp] theorem enterStarting_gates (s : State) (p : Fin 4) :
    (enterStarting p s).gates = s.gates := rfl

@[simp] theorem enterStarting_lights (s : State) (p : Fin 4) :
    (enterStarting p s).lights = s.lights := rfl

@[simp] theorem enterStarting_signs (s : State) (p : Fin 4) :
    (enterStarting p s).signs = s.signs := rfl

@[simp] theorem enterStarting_tool (s : State) (p : Fin 4) :
    (enterStarting p s).tool = s.tool := rfl

@[simp] theorem enterStarting_free (s : State) (p : Fin 4) :
    (enterStarting p s).free = s.free := rfl

@[simp] theorem enterStarting_pending (s : State) (p : Fin 4) :
    (enterStarting p s).pending = s.pending := rfl

@[simp] theorem useFree_now (s : State) :
    (useFree s).now = s.now := rfl

@[simp] theorem useFree_mode (s : State) :
    (useFree s).mode = s.mode := rfl

@[simp] theorem useFree_startup (s : State) :
    (useFree s).startup = s.startup := rfl

@[simp] theorem useFree_fallback (s : State) :
    (useFree s).fallback = s.fallback := rfl

@[simp] theorem useFree_meas (s : State) :
    (useFree s).meas = s.meas := rfl

@[simp] theorem useFree_inputs (s : State) :
    (useFree s).inputs = s.inputs := rfl

@[simp] theorem useFree_stage (s : State) :
    (useFree s).stage = s.stage := rfl

@[simp] theorem useFree_pumps (s : State) :
    (useFree s).pumps = s.pumps := rfl

@[simp] theorem useFree_line (s : State) :
    (useFree s).line = s.line := rfl

@[simp] theorem useFree_peers (s : State) :
    (useFree s).peers = s.peers := rfl

@[simp] theorem useFree_supply (s : State) :
    (useFree s).supply = s.supply := rfl

@[simp] theorem useFree_gates (s : State) :
    (useFree s).gates = s.gates := rfl

@[simp] theorem useFree_lights (s : State) :
    (useFree s).lights = s.lights := rfl

@[simp] theorem useFree_signs (s : State) :
    (useFree s).signs = s.signs := rfl

@[simp] theorem useFree_tool (s : State) :
    (useFree s).tool = s.tool := rfl

@[simp] theorem useFree_free (s : State) :
    (useFree s).free = s.free + 1 := rfl

@[simp] theorem useFree_pending (s : State) :
    (useFree s).pending = s.pending := rfl

@[simp] theorem computeH_now (s : State) :
    (computeH s).now = s.now := rfl

@[simp] theorem computeH_mode (s : State) :
    (computeH s).mode = s.mode := rfl

@[simp] theorem computeH_startup (s : State) :
    (computeH s).startup = s.startup := rfl

@[simp] theorem computeH_fallback (s : State) :
    (computeH s).fallback = s.fallback := rfl

@[simp] theorem computeH_meas (s : State) :
    (computeH s).meas = s.meas := rfl

@[simp] theorem computeH_inputs (s : State) :
    (computeH s).inputs = s.inputs := rfl

@[simp] theorem computeH_stage (s : State) :
    (computeH s).stage = s.stage := rfl

@[simp] theorem computeH_pumps (s : State) :
    (computeH s).pumps = s.pumps := rfl

@[simp] theorem computeH_line (s : State) :
    (computeH s).line = s.line := rfl

@[simp] theorem computeH_peers (s : State) :
    (computeH s).peers = s.peers := rfl

@[simp] theorem computeH_supply (s : State) :
    (computeH s).supply = { s.supply with headroom := headroomOf s } := rfl

@[simp] theorem computeH_gates (s : State) :
    (computeH s).gates = s.gates := rfl

@[simp] theorem computeH_lights (s : State) :
    (computeH s).lights = s.lights := rfl

@[simp] theorem computeH_signs (s : State) :
    (computeH s).signs = s.signs := rfl

@[simp] theorem computeH_tool (s : State) :
    (computeH s).tool = s.tool := rfl

@[simp] theorem computeH_free (s : State) :
    (computeH s).free = s.free := rfl

@[simp] theorem computeH_pending (s : State) :
    (computeH s).pending = s.pending := rfl

@[simp] theorem setReceiver_now (s : State) (r : Receiver) :
    (setReceiver r s).now = s.now := rfl

@[simp] theorem setReceiver_mode (s : State) (r : Receiver) :
    (setReceiver r s).mode = s.mode := rfl

@[simp] theorem setReceiver_startup (s : State) (r : Receiver) :
    (setReceiver r s).startup = s.startup := rfl

@[simp] theorem setReceiver_fallback (s : State) (r : Receiver) :
    (setReceiver r s).fallback = s.fallback := rfl

@[simp] theorem setReceiver_meas (s : State) (r : Receiver) :
    (setReceiver r s).meas = s.meas := rfl

@[simp] theorem setReceiver_inputs (s : State) (r : Receiver) :
    (setReceiver r s).inputs = s.inputs := rfl

@[simp] theorem setReceiver_stage (s : State) (r : Receiver) :
    (setReceiver r s).stage = s.stage := rfl

@[simp] theorem setReceiver_pumps (s : State) (r : Receiver) :
    (setReceiver r s).pumps = s.pumps := rfl

@[simp] theorem setReceiver_line (s : State) (r : Receiver) :
    (setReceiver r s).line = { s.line with receiver := r } := rfl

@[simp] theorem setReceiver_peers (s : State) (r : Receiver) :
    (setReceiver r s).peers = s.peers := rfl

@[simp] theorem setReceiver_supply (s : State) (r : Receiver) :
    (setReceiver r s).supply = s.supply := rfl

@[simp] theorem setReceiver_gates (s : State) (r : Receiver) :
    (setReceiver r s).gates = s.gates := rfl

@[simp] theorem setReceiver_lights (s : State) (r : Receiver) :
    (setReceiver r s).lights = s.lights := rfl

@[simp] theorem setReceiver_signs (s : State) (r : Receiver) :
    (setReceiver r s).signs = s.signs := rfl

@[simp] theorem setReceiver_tool (s : State) (r : Receiver) :
    (setReceiver r s).tool = s.tool := rfl

@[simp] theorem setReceiver_free (s : State) (r : Receiver) :
    (setReceiver r s).free = s.free := rfl

@[simp] theorem setReceiver_pending (s : State) (r : Receiver) :
    (setReceiver r s).pending = s.pending := rfl

@[simp] theorem restartIdle_now (s : State) :
    (restartIdle s).now = s.now := rfl

@[simp] theorem restartIdle_mode (s : State) :
    (restartIdle s).mode = s.mode := rfl

@[simp] theorem restartIdle_startup (s : State) :
    (restartIdle s).startup = s.startup := rfl

@[simp] theorem restartIdle_fallback (s : State) :
    (restartIdle s).fallback = s.fallback := rfl

@[simp] theorem restartIdle_meas (s : State) :
    (restartIdle s).meas = s.meas := rfl

@[simp] theorem restartIdle_inputs (s : State) :
    (restartIdle s).inputs = s.inputs := rfl

@[simp] theorem restartIdle_stage (s : State) :
    (restartIdle s).stage = s.stage := rfl

@[simp] theorem restartIdle_pumps (s : State) :
    (restartIdle s).pumps = s.pumps := rfl

@[simp] theorem restartIdle_line (s : State) :
    (restartIdle s).line = { s.line with idleFrom := s.now } := rfl

@[simp] theorem restartIdle_peers (s : State) :
    (restartIdle s).peers = s.peers := rfl

@[simp] theorem restartIdle_supply (s : State) :
    (restartIdle s).supply = s.supply := rfl

@[simp] theorem restartIdle_gates (s : State) :
    (restartIdle s).gates = s.gates := rfl

@[simp] theorem restartIdle_lights (s : State) :
    (restartIdle s).lights = s.lights := rfl

@[simp] theorem restartIdle_signs (s : State) :
    (restartIdle s).signs = s.signs := rfl

@[simp] theorem restartIdle_tool (s : State) :
    (restartIdle s).tool = s.tool := rfl

@[simp] theorem restartIdle_free (s : State) :
    (restartIdle s).free = s.free := rfl

@[simp] theorem restartIdle_pending (s : State) :
    (restartIdle s).pending = s.pending := rfl

@[simp] theorem withCounters_now (s : State) (f : Counters → Counters) :
    (withCounters f s).now = s.now := rfl

@[simp] theorem withCounters_mode (s : State) (f : Counters → Counters) :
    (withCounters f s).mode = s.mode := rfl

@[simp] theorem withCounters_startup (s : State) (f : Counters → Counters) :
    (withCounters f s).startup = s.startup := rfl

@[simp] theorem withCounters_fallback (s : State) (f : Counters → Counters) :
    (withCounters f s).fallback = s.fallback := rfl

@[simp] theorem withCounters_meas (s : State) (f : Counters → Counters) :
    (withCounters f s).meas = s.meas := rfl

@[simp] theorem withCounters_inputs (s : State) (f : Counters → Counters) :
    (withCounters f s).inputs = s.inputs := rfl

@[simp] theorem withCounters_stage (s : State) (f : Counters → Counters) :
    (withCounters f s).stage = s.stage := rfl

@[simp] theorem withCounters_pumps (s : State) (f : Counters → Counters) :
    (withCounters f s).pumps = s.pumps := rfl

@[simp] theorem withCounters_line (s : State) (f : Counters → Counters) :
    (withCounters f s).line = { s.line with counters := f s.line.counters } := rfl

@[simp] theorem withCounters_peers (s : State) (f : Counters → Counters) :
    (withCounters f s).peers = s.peers := rfl

@[simp] theorem withCounters_supply (s : State) (f : Counters → Counters) :
    (withCounters f s).supply = s.supply := rfl

@[simp] theorem withCounters_gates (s : State) (f : Counters → Counters) :
    (withCounters f s).gates = s.gates := rfl

@[simp] theorem withCounters_lights (s : State) (f : Counters → Counters) :
    (withCounters f s).lights = s.lights := rfl

@[simp] theorem withCounters_signs (s : State) (f : Counters → Counters) :
    (withCounters f s).signs = s.signs := rfl

@[simp] theorem withCounters_tool (s : State) (f : Counters → Counters) :
    (withCounters f s).tool = s.tool := rfl

@[simp] theorem withCounters_free (s : State) (f : Counters → Counters) :
    (withCounters f s).free = s.free := rfl

@[simp] theorem withCounters_pending (s : State) (f : Counters → Counters) :
    (withCounters f s).pending = s.pending := rfl

@[simp] theorem enqueue_now (s : State) (kind : FrameKind) (payload : List Byte) (tag : AnswerTag) :
    (enqueue kind payload tag s).now = s.now := rfl

@[simp] theorem enqueue_mode (s : State) (kind : FrameKind) (payload : List Byte) (tag : AnswerTag) :
    (enqueue kind payload tag s).mode = s.mode := rfl

@[simp] theorem enqueue_startup (s : State) (kind : FrameKind) (payload : List Byte) (tag : AnswerTag) :
    (enqueue kind payload tag s).startup = s.startup := rfl

@[simp] theorem enqueue_fallback (s : State) (kind : FrameKind) (payload : List Byte) (tag : AnswerTag) :
    (enqueue kind payload tag s).fallback = s.fallback := rfl

@[simp] theorem enqueue_meas (s : State) (kind : FrameKind) (payload : List Byte) (tag : AnswerTag) :
    (enqueue kind payload tag s).meas = s.meas := rfl

@[simp] theorem enqueue_inputs (s : State) (kind : FrameKind) (payload : List Byte) (tag : AnswerTag) :
    (enqueue kind payload tag s).inputs = s.inputs := rfl

@[simp] theorem enqueue_stage (s : State) (kind : FrameKind) (payload : List Byte) (tag : AnswerTag) :
    (enqueue kind payload tag s).stage = s.stage := rfl

@[simp] theorem enqueue_pumps (s : State) (kind : FrameKind) (payload : List Byte) (tag : AnswerTag) :
    (enqueue kind payload tag s).pumps = s.pumps := rfl

@[simp] theorem enqueue_peers (s : State) (kind : FrameKind) (payload : List Byte) (tag : AnswerTag) :
    (enqueue kind payload tag s).peers = s.peers := rfl

@[simp] theorem enqueue_supply (s : State) (kind : FrameKind) (payload : List Byte) (tag : AnswerTag) :
    (enqueue kind payload tag s).supply = s.supply := rfl

@[simp] theorem enqueue_gates (s : State) (kind : FrameKind) (payload : List Byte) (tag : AnswerTag) :
    (enqueue kind payload tag s).gates = s.gates := rfl

@[simp] theorem enqueue_lights (s : State) (kind : FrameKind) (payload : List Byte) (tag : AnswerTag) :
    (enqueue kind payload tag s).lights = s.lights := rfl

@[simp] theorem enqueue_signs (s : State) (kind : FrameKind) (payload : List Byte) (tag : AnswerTag) :
    (enqueue kind payload tag s).signs = s.signs := rfl

@[simp] theorem enqueue_tool (s : State) (kind : FrameKind) (payload : List Byte) (tag : AnswerTag) :
    (enqueue kind payload tag s).tool = s.tool := rfl

@[simp] theorem enqueue_free (s : State) (kind : FrameKind) (payload : List Byte) (tag : AnswerTag) :
    (enqueue kind payload tag s).free = s.free := rfl

@[simp] theorem enqueue_pending (s : State) (kind : FrameKind) (payload : List Byte) (tag : AnswerTag) :
    (enqueue kind payload tag s).pending = s.pending := rfl

@[simp] theorem dequeue_now (s : State) (order : Nat) :
    (dequeue order s).now = s.now := rfl

@[simp] theorem dequeue_mode (s : State) (order : Nat) :
    (dequeue order s).mode = s.mode := rfl

@[simp] theorem dequeue_startup (s : State) (order : Nat) :
    (dequeue order s).startup = s.startup := rfl

@[simp] theorem dequeue_fallback (s : State) (order : Nat) :
    (dequeue order s).fallback = s.fallback := rfl

@[simp] theorem dequeue_meas (s : State) (order : Nat) :
    (dequeue order s).meas = s.meas := rfl

@[simp] theorem dequeue_inputs (s : State) (order : Nat) :
    (dequeue order s).inputs = s.inputs := rfl

@[simp] theorem dequeue_stage (s : State) (order : Nat) :
    (dequeue order s).stage = s.stage := rfl

@[simp] theorem dequeue_pumps (s : State) (order : Nat) :
    (dequeue order s).pumps = s.pumps := rfl

@[simp] theorem dequeue_peers (s : State) (order : Nat) :
    (dequeue order s).peers = s.peers := rfl

@[simp] theorem dequeue_supply (s : State) (order : Nat) :
    (dequeue order s).supply = s.supply := rfl

@[simp] theorem dequeue_gates (s : State) (order : Nat) :
    (dequeue order s).gates = s.gates := rfl

@[simp] theorem dequeue_lights (s : State) (order : Nat) :
    (dequeue order s).lights = s.lights := rfl

@[simp] theorem dequeue_signs (s : State) (order : Nat) :
    (dequeue order s).signs = s.signs := rfl

@[simp] theorem dequeue_tool (s : State) (order : Nat) :
    (dequeue order s).tool = s.tool := rfl

@[simp] theorem dequeue_free (s : State) (order : Nat) :
    (dequeue order s).free = s.free := rfl

@[simp] theorem dequeue_pending (s : State) (order : Nat) :
    (dequeue order s).pending = s.pending := rfl

@[simp] theorem changeEntry_now (s : State) (order : Nat) (f : Entry → Entry) :
    (changeEntry order f s).now = s.now := rfl

@[simp] theorem changeEntry_mode (s : State) (order : Nat) (f : Entry → Entry) :
    (changeEntry order f s).mode = s.mode := rfl

@[simp] theorem changeEntry_startup (s : State) (order : Nat) (f : Entry → Entry) :
    (changeEntry order f s).startup = s.startup := rfl

@[simp] theorem changeEntry_fallback (s : State) (order : Nat) (f : Entry → Entry) :
    (changeEntry order f s).fallback = s.fallback := rfl

@[simp] theorem changeEntry_meas (s : State) (order : Nat) (f : Entry → Entry) :
    (changeEntry order f s).meas = s.meas := rfl

@[simp] theorem changeEntry_inputs (s : State) (order : Nat) (f : Entry → Entry) :
    (changeEntry order f s).inputs = s.inputs := rfl

@[simp] theorem changeEntry_stage (s : State) (order : Nat) (f : Entry → Entry) :
    (changeEntry order f s).stage = s.stage := rfl

@[simp] theorem changeEntry_pumps (s : State) (order : Nat) (f : Entry → Entry) :
    (changeEntry order f s).pumps = s.pumps := rfl

@[simp] theorem changeEntry_peers (s : State) (order : Nat) (f : Entry → Entry) :
    (changeEntry order f s).peers = s.peers := rfl

@[simp] theorem changeEntry_supply (s : State) (order : Nat) (f : Entry → Entry) :
    (changeEntry order f s).supply = s.supply := rfl

@[simp] theorem changeEntry_gates (s : State) (order : Nat) (f : Entry → Entry) :
    (changeEntry order f s).gates = s.gates := rfl

@[simp] theorem changeEntry_lights (s : State) (order : Nat) (f : Entry → Entry) :
    (changeEntry order f s).lights = s.lights := rfl

@[simp] theorem changeEntry_signs (s : State) (order : Nat) (f : Entry → Entry) :
    (changeEntry order f s).signs = s.signs := rfl

@[simp] theorem changeEntry_tool (s : State) (order : Nat) (f : Entry → Entry) :
    (changeEntry order f s).tool = s.tool := rfl

@[simp] theorem changeEntry_free (s : State) (order : Nat) (f : Entry → Entry) :
    (changeEntry order f s).free = s.free := rfl

@[simp] theorem changeEntry_pending (s : State) (order : Nat) (f : Entry → Entry) :
    (changeEntry order f s).pending = s.pending := rfl

@[simp] theorem intentNotSent_now (s : State) :
    (intentNotSent s).now = s.now := rfl

@[simp] theorem intentNotSent_mode (s : State) :
    (intentNotSent s).mode = s.mode := rfl

@[simp] theorem intentNotSent_startup (s : State) :
    (intentNotSent s).startup = s.startup := rfl

@[simp] theorem intentNotSent_fallback (s : State) :
    (intentNotSent s).fallback = s.fallback := rfl

@[simp] theorem intentNotSent_meas (s : State) :
    (intentNotSent s).meas = s.meas := rfl

@[simp] theorem intentNotSent_inputs (s : State) :
    (intentNotSent s).inputs = s.inputs := rfl

@[simp] theorem intentNotSent_stage (s : State) :
    (intentNotSent s).stage = s.stage := rfl

@[simp] theorem intentNotSent_pumps (s : State) :
    (intentNotSent s).pumps = s.pumps := rfl

@[simp] theorem intentNotSent_line (s : State) :
    (intentNotSent s).line = s.line := rfl

@[simp] theorem intentNotSent_peers (s : State) :
    (intentNotSent s).peers = s.peers := rfl

@[simp] theorem intentNotSent_supply (s : State) :
    (intentNotSent s).supply = { s.supply with intent := .none, formWaits := true } := rfl

@[simp] theorem intentNotSent_gates (s : State) :
    (intentNotSent s).gates = s.gates := rfl

@[simp] theorem intentNotSent_lights (s : State) :
    (intentNotSent s).lights = s.lights := rfl

@[simp] theorem intentNotSent_signs (s : State) :
    (intentNotSent s).signs = s.signs := rfl

@[simp] theorem intentNotSent_tool (s : State) :
    (intentNotSent s).tool = s.tool := rfl

@[simp] theorem intentNotSent_free (s : State) :
    (intentNotSent s).free = s.free := rfl

@[simp] theorem intentNotSent_pending (s : State) :
    (intentNotSent s).pending = s.pending := rfl

@[simp] theorem placeMarker_now (s : State) :
    (placeMarker s).now = s.now := rfl

@[simp] theorem placeMarker_mode (s : State) :
    (placeMarker s).mode = s.mode := rfl

@[simp] theorem placeMarker_startup (s : State) :
    (placeMarker s).startup = s.startup := rfl

@[simp] theorem placeMarker_fallback (s : State) :
    (placeMarker s).fallback = s.fallback := rfl

@[simp] theorem placeMarker_meas (s : State) :
    (placeMarker s).meas = s.meas := rfl

@[simp] theorem placeMarker_inputs (s : State) :
    (placeMarker s).inputs = s.inputs := rfl

@[simp] theorem placeMarker_stage (s : State) :
    (placeMarker s).stage = s.stage := rfl

@[simp] theorem placeMarker_pumps (s : State) :
    (placeMarker s).pumps = s.pumps := rfl

@[simp] theorem placeMarker_peers (s : State) :
    (placeMarker s).peers = s.peers := rfl

@[simp] theorem placeMarker_supply (s : State) :
    (placeMarker s).supply = s.supply := rfl

@[simp] theorem placeMarker_gates (s : State) :
    (placeMarker s).gates = s.gates := rfl

@[simp] theorem placeMarker_lights (s : State) :
    (placeMarker s).lights = s.lights := rfl

@[simp] theorem placeMarker_signs (s : State) :
    (placeMarker s).signs = s.signs := rfl

@[simp] theorem placeMarker_tool (s : State) :
    (placeMarker s).tool = s.tool := rfl

@[simp] theorem placeMarker_free (s : State) :
    (placeMarker s).free = s.free := rfl

@[simp] theorem placeMarker_pending (s : State) :
    (placeMarker s).pending = s.pending := rfl

@[simp] theorem reportEnded_now (s : State) :
    (reportEnded s).now = s.now := rfl

@[simp] theorem reportEnded_mode (s : State) :
    (reportEnded s).mode = s.mode := rfl

@[simp] theorem reportEnded_startup (s : State) :
    (reportEnded s).startup = s.startup := rfl

@[simp] theorem reportEnded_fallback (s : State) :
    (reportEnded s).fallback = s.fallback := rfl

@[simp] theorem reportEnded_meas (s : State) :
    (reportEnded s).meas = s.meas := rfl

@[simp] theorem reportEnded_inputs (s : State) :
    (reportEnded s).inputs = s.inputs := rfl

@[simp] theorem reportEnded_stage (s : State) :
    (reportEnded s).stage = s.stage := rfl

@[simp] theorem reportEnded_pumps (s : State) :
    (reportEnded s).pumps = s.pumps := rfl

@[simp] theorem reportEnded_peers (s : State) :
    (reportEnded s).peers = s.peers := rfl

@[simp] theorem reportEnded_supply (s : State) :
    (reportEnded s).supply = s.supply := rfl

@[simp] theorem reportEnded_gates (s : State) :
    (reportEnded s).gates = s.gates := rfl

@[simp] theorem reportEnded_lights (s : State) :
    (reportEnded s).lights = s.lights := rfl

@[simp] theorem reportEnded_signs (s : State) :
    (reportEnded s).signs = s.signs := rfl

@[simp] theorem reportEnded_tool (s : State) :
    (reportEnded s).tool = s.tool := rfl

@[simp] theorem reportEnded_free (s : State) :
    (reportEnded s).free = s.free := rfl

@[simp] theorem reportEnded_pending (s : State) :
    (reportEnded s).pending = s.pending := rfl

@[simp] theorem releaseLine_now (s : State) :
    (releaseLine s).now = s.now := rfl

@[simp] theorem releaseLine_mode (s : State) :
    (releaseLine s).mode = s.mode := rfl

@[simp] theorem releaseLine_startup (s : State) :
    (releaseLine s).startup = s.startup := rfl

@[simp] theorem releaseLine_fallback (s : State) :
    (releaseLine s).fallback = s.fallback := rfl

@[simp] theorem releaseLine_meas (s : State) :
    (releaseLine s).meas = s.meas := rfl

@[simp] theorem releaseLine_inputs (s : State) :
    (releaseLine s).inputs = s.inputs := rfl

@[simp] theorem releaseLine_stage (s : State) :
    (releaseLine s).stage = s.stage := rfl

@[simp] theorem releaseLine_pumps (s : State) :
    (releaseLine s).pumps = s.pumps := rfl

@[simp] theorem releaseLine_line (s : State) :
    (releaseLine s).line = { s.line with sending := none } := rfl

@[simp] theorem releaseLine_peers (s : State) :
    (releaseLine s).peers = s.peers := rfl

@[simp] theorem releaseLine_supply (s : State) :
    (releaseLine s).supply = s.supply := rfl

@[simp] theorem releaseLine_gates (s : State) :
    (releaseLine s).gates = s.gates := rfl

@[simp] theorem releaseLine_lights (s : State) :
    (releaseLine s).lights = s.lights := rfl

@[simp] theorem releaseLine_signs (s : State) :
    (releaseLine s).signs = s.signs := rfl

@[simp] theorem releaseLine_tool (s : State) :
    (releaseLine s).tool = s.tool := rfl

@[simp] theorem releaseLine_free (s : State) :
    (releaseLine s).free = s.free := rfl

@[simp] theorem releaseLine_pending (s : State) :
    (releaseLine s).pending = s.pending := rfl

@[simp] theorem withdrawShedCalls_now (s : State) :
    (withdrawShedCalls s).now = s.now := rfl

@[simp] theorem withdrawShedCalls_mode (s : State) :
    (withdrawShedCalls s).mode = s.mode := rfl

@[simp] theorem withdrawShedCalls_startup (s : State) :
    (withdrawShedCalls s).startup = s.startup := rfl

@[simp] theorem withdrawShedCalls_fallback (s : State) :
    (withdrawShedCalls s).fallback = s.fallback := rfl

@[simp] theorem withdrawShedCalls_meas (s : State) :
    (withdrawShedCalls s).meas = s.meas := rfl

@[simp] theorem withdrawShedCalls_inputs (s : State) :
    (withdrawShedCalls s).inputs = s.inputs := rfl

@[simp] theorem withdrawShedCalls_stage (s : State) :
    (withdrawShedCalls s).stage = s.stage := rfl

@[simp] theorem withdrawShedCalls_pumps (s : State) :
    (withdrawShedCalls s).pumps = s.pumps := rfl

@[simp] theorem withdrawShedCalls_peers (s : State) :
    (withdrawShedCalls s).peers = s.peers := rfl

@[simp] theorem withdrawShedCalls_supply (s : State) :
    (withdrawShedCalls s).supply = s.supply := rfl

@[simp] theorem withdrawShedCalls_gates (s : State) :
    (withdrawShedCalls s).gates = s.gates := rfl

@[simp] theorem withdrawShedCalls_lights (s : State) :
    (withdrawShedCalls s).lights = s.lights := rfl

@[simp] theorem withdrawShedCalls_signs (s : State) :
    (withdrawShedCalls s).signs = s.signs := rfl

@[simp] theorem withdrawShedCalls_tool (s : State) :
    (withdrawShedCalls s).tool = s.tool := rfl

@[simp] theorem withdrawShedCalls_free (s : State) :
    (withdrawShedCalls s).free = s.free := rfl

@[simp] theorem withdrawShedCalls_pending (s : State) :
    (withdrawShedCalls s).pending = s.pending := rfl

@[simp] theorem dropOwnReservation_now (s : State) :
    (dropOwnReservation s).now = s.now := rfl

@[simp] theorem dropOwnReservation_mode (s : State) :
    (dropOwnReservation s).mode = s.mode := rfl

@[simp] theorem dropOwnReservation_startup (s : State) :
    (dropOwnReservation s).startup = s.startup := rfl

@[simp] theorem dropOwnReservation_fallback (s : State) :
    (dropOwnReservation s).fallback = s.fallback := rfl

@[simp] theorem dropOwnReservation_meas (s : State) :
    (dropOwnReservation s).meas = s.meas := rfl

@[simp] theorem dropOwnReservation_inputs (s : State) :
    (dropOwnReservation s).inputs = s.inputs := rfl

@[simp] theorem dropOwnReservation_stage (s : State) :
    (dropOwnReservation s).stage = s.stage := rfl

@[simp] theorem dropOwnReservation_pumps (s : State) :
    (dropOwnReservation s).pumps = s.pumps := rfl

@[simp] theorem dropOwnReservation_line (s : State) :
    (dropOwnReservation s).line = s.line := rfl

@[simp] theorem dropOwnReservation_supply (s : State) :
    (dropOwnReservation s).supply = s.supply := rfl

@[simp] theorem dropOwnReservation_gates (s : State) :
    (dropOwnReservation s).gates = s.gates := rfl

@[simp] theorem dropOwnReservation_lights (s : State) :
    (dropOwnReservation s).lights = s.lights := rfl

@[simp] theorem dropOwnReservation_signs (s : State) :
    (dropOwnReservation s).signs = s.signs := rfl

@[simp] theorem dropOwnReservation_tool (s : State) :
    (dropOwnReservation s).tool = s.tool := rfl

@[simp] theorem dropOwnReservation_free (s : State) :
    (dropOwnReservation s).free = s.free := rfl

@[simp] theorem dropOwnReservation_pending (s : State) :
    (dropOwnReservation s).pending = s.pending := rfl

@[simp] theorem sampleInputs_now (s : State) (pins : Pins) :
    (sampleInputs pins s).now = s.now := rfl

@[simp] theorem sampleInputs_mode (s : State) (pins : Pins) :
    (sampleInputs pins s).mode = s.mode := rfl

@[simp] theorem sampleInputs_startup (s : State) (pins : Pins) :
    (sampleInputs pins s).startup = s.startup := rfl

@[simp] theorem sampleInputs_fallback (s : State) (pins : Pins) :
    (sampleInputs pins s).fallback = s.fallback := rfl

@[simp] theorem sampleInputs_meas (s : State) (pins : Pins) :
    (sampleInputs pins s).meas = s.meas := rfl

@[simp] theorem sampleInputs_stage (s : State) (pins : Pins) :
    (sampleInputs pins s).stage = s.stage := rfl

@[simp] theorem sampleInputs_pumps (s : State) (pins : Pins) :
    (sampleInputs pins s).pumps = s.pumps := rfl

@[simp] theorem sampleInputs_line (s : State) (pins : Pins) :
    (sampleInputs pins s).line = s.line := rfl

@[simp] theorem sampleInputs_peers (s : State) (pins : Pins) :
    (sampleInputs pins s).peers = s.peers := rfl

@[simp] theorem sampleInputs_supply (s : State) (pins : Pins) :
    (sampleInputs pins s).supply = s.supply := rfl

@[simp] theorem sampleInputs_gates (s : State) (pins : Pins) :
    (sampleInputs pins s).gates = s.gates := rfl

@[simp] theorem sampleInputs_lights (s : State) (pins : Pins) :
    (sampleInputs pins s).lights = s.lights := rfl

@[simp] theorem sampleInputs_signs (s : State) (pins : Pins) :
    (sampleInputs pins s).signs = s.signs := rfl

@[simp] theorem sampleInputs_tool (s : State) (pins : Pins) :
    (sampleInputs pins s).tool = s.tool := rfl

@[simp] theorem sampleInputs_free (s : State) (pins : Pins) :
    (sampleInputs pins s).free = s.free := rfl

@[simp] theorem sampleInputs_pending (s : State) (pins : Pins) :
    (sampleInputs pins s).pending = s.pending := rfl

@[simp] theorem fallbackSample_now (s : State) (pins : Pins) :
    (fallbackSample pins s).now = s.now := rfl

@[simp] theorem fallbackSample_mode (s : State) (pins : Pins) :
    (fallbackSample pins s).mode = s.mode := rfl

@[simp] theorem fallbackSample_startup (s : State) (pins : Pins) :
    (fallbackSample pins s).startup = s.startup := rfl

@[simp] theorem fallbackSample_fallback (s : State) (pins : Pins) :
    (fallbackSample pins s).fallback = s.fallback := rfl

@[simp] theorem fallbackSample_meas (s : State) (pins : Pins) :
    (fallbackSample pins s).meas = { s.meas with sampleFrom := some s.now } := rfl

@[simp] theorem fallbackSample_stage (s : State) (pins : Pins) :
    (fallbackSample pins s).stage = s.stage := rfl

@[simp] theorem fallbackSample_pumps (s : State) (pins : Pins) :
    (fallbackSample pins s).pumps = s.pumps := rfl

@[simp] theorem fallbackSample_line (s : State) (pins : Pins) :
    (fallbackSample pins s).line = s.line := rfl

@[simp] theorem fallbackSample_peers (s : State) (pins : Pins) :
    (fallbackSample pins s).peers = s.peers := rfl

@[simp] theorem fallbackSample_supply (s : State) (pins : Pins) :
    (fallbackSample pins s).supply = s.supply := rfl

@[simp] theorem fallbackSample_gates (s : State) (pins : Pins) :
    (fallbackSample pins s).gates = s.gates := rfl

@[simp] theorem fallbackSample_lights (s : State) (pins : Pins) :
    (fallbackSample pins s).lights = s.lights := rfl

@[simp] theorem fallbackSample_signs (s : State) (pins : Pins) :
    (fallbackSample pins s).signs = s.signs := rfl

@[simp] theorem fallbackSample_tool (s : State) (pins : Pins) :
    (fallbackSample pins s).tool = s.tool := rfl

@[simp] theorem fallbackSample_free (s : State) (pins : Pins) :
    (fallbackSample pins s).free = s.free := rfl

@[simp] theorem fallbackSample_pending (s : State) (pins : Pins) :
    (fallbackSample pins s).pending = s.pending := rfl

@[simp] theorem openWindow_now (s : State) :
    (openWindow s).now = s.now := rfl

@[simp] theorem openWindow_mode (s : State) :
    (openWindow s).mode = s.mode := rfl

@[simp] theorem openWindow_startup (s : State) :
    (openWindow s).startup = s.startup := rfl

@[simp] theorem openWindow_fallback (s : State) :
    (openWindow s).fallback = s.fallback := rfl

@[simp] theorem openWindow_meas (s : State) :
    (openWindow s).meas = { s.meas with sampleFrom := some s.now } := rfl

@[simp] theorem openWindow_inputs (s : State) :
    (openWindow s).inputs = s.inputs := rfl

@[simp] theorem openWindow_stage (s : State) :
    (openWindow s).stage = s.stage := rfl

@[simp] theorem openWindow_pumps (s : State) :
    (openWindow s).pumps = s.pumps := rfl

@[simp] theorem openWindow_peers (s : State) :
    (openWindow s).peers = s.peers := rfl

@[simp] theorem openWindow_supply (s : State) :
    (openWindow s).supply = s.supply := rfl

@[simp] theorem openWindow_gates (s : State) :
    (openWindow s).gates = s.gates := rfl

@[simp] theorem openWindow_lights (s : State) :
    (openWindow s).lights = s.lights := rfl

@[simp] theorem openWindow_signs (s : State) :
    (openWindow s).signs = s.signs := rfl

@[simp] theorem openWindow_tool (s : State) :
    (openWindow s).tool = s.tool := rfl

@[simp] theorem openWindow_free (s : State) :
    (openWindow s).free = s.free := rfl

@[simp] theorem openWindow_pending (s : State) :
    (openWindow s).pending = s.pending := rfl

@[simp] theorem startFlash_now (s : State) :
    (startFlash s).now = s.now := rfl

@[simp] theorem startFlash_mode (s : State) :
    (startFlash s).mode = s.mode := rfl

@[simp] theorem startFlash_startup (s : State) :
    (startFlash s).startup = s.startup := rfl

@[simp] theorem startFlash_fallback (s : State) :
    (startFlash s).fallback = s.fallback := rfl

@[simp] theorem startFlash_meas (s : State) :
    (startFlash s).meas = s.meas := rfl

@[simp] theorem startFlash_inputs (s : State) :
    (startFlash s).inputs = s.inputs := rfl

@[simp] theorem startFlash_stage (s : State) :
    (startFlash s).stage = s.stage := rfl

@[simp] theorem startFlash_pumps (s : State) :
    (startFlash s).pumps = s.pumps := rfl

@[simp] theorem startFlash_line (s : State) :
    (startFlash s).line = s.line := rfl

@[simp] theorem startFlash_peers (s : State) :
    (startFlash s).peers = s.peers := rfl

@[simp] theorem startFlash_supply (s : State) :
    (startFlash s).supply = s.supply := rfl

@[simp] theorem startFlash_gates (s : State) :
    (startFlash s).gates = s.gates := rfl

@[simp] theorem startFlash_lights (s : State) :
    (startFlash s).lights = s.lights := rfl

@[simp] theorem startFlash_signs (s : State) :
    (startFlash s).signs = { s.signs with firstHalf := true, flashAt := some (s.now + halfSecond) } := rfl

@[simp] theorem startFlash_tool (s : State) :
    (startFlash s).tool = s.tool := rfl

@[simp] theorem startFlash_free (s : State) :
    (startFlash s).free = s.free := rfl

@[simp] theorem startFlash_pending (s : State) :
    (startFlash s).pending = s.pending := rfl

@[simp] theorem freeSteps_now (s : State) :
    (freeSteps s).now = s.now := rfl

@[simp] theorem freeSteps_mode (s : State) :
    (freeSteps s).mode = s.mode := rfl

@[simp] theorem freeSteps_startup (s : State) :
    (freeSteps s).startup = s.startup := rfl

@[simp] theorem freeSteps_fallback (s : State) :
    (freeSteps s).fallback = s.fallback := rfl

@[simp] theorem freeSteps_meas (s : State) :
    (freeSteps s).meas = s.meas := rfl

@[simp] theorem freeSteps_inputs (s : State) :
    (freeSteps s).inputs = s.inputs := rfl

@[simp] theorem freeSteps_stage (s : State) :
    (freeSteps s).stage = s.stage := rfl

@[simp] theorem freeSteps_pumps (s : State) :
    (freeSteps s).pumps = s.pumps := rfl

@[simp] theorem freeSteps_line (s : State) :
    (freeSteps s).line = s.line := rfl

@[simp] theorem freeSteps_peers (s : State) :
    (freeSteps s).peers = s.peers := rfl

@[simp] theorem freeSteps_supply (s : State) :
    (freeSteps s).supply = s.supply := rfl

@[simp] theorem freeSteps_gates (s : State) :
    (freeSteps s).gates = s.gates := rfl

@[simp] theorem freeSteps_signs (s : State) :
    (freeSteps s).signs = s.signs := rfl

@[simp] theorem freeSteps_tool (s : State) :
    (freeSteps s).tool = s.tool := rfl

@[simp] theorem freeSteps_free (s : State) :
    (freeSteps s).free = s.free + 1 := rfl

@[simp] theorem freeSteps_pending (s : State) :
    (freeSteps s).pending = s.pending := rfl

@[simp] theorem idleAtMost_now (s : State) (idle : Nat) :
    (idleAtMost idle s).now = s.now := rfl

@[simp] theorem idleAtMost_mode (s : State) (idle : Nat) :
    (idleAtMost idle s).mode = s.mode := rfl

@[simp] theorem idleAtMost_startup (s : State) (idle : Nat) :
    (idleAtMost idle s).startup = s.startup := rfl

@[simp] theorem idleAtMost_fallback (s : State) (idle : Nat) :
    (idleAtMost idle s).fallback = s.fallback := rfl

@[simp] theorem idleAtMost_meas (s : State) (idle : Nat) :
    (idleAtMost idle s).meas = s.meas := rfl

@[simp] theorem idleAtMost_inputs (s : State) (idle : Nat) :
    (idleAtMost idle s).inputs = s.inputs := rfl

@[simp] theorem idleAtMost_stage (s : State) (idle : Nat) :
    (idleAtMost idle s).stage = s.stage := rfl

@[simp] theorem idleAtMost_pumps (s : State) (idle : Nat) :
    (idleAtMost idle s).pumps = s.pumps := rfl

@[simp] theorem idleAtMost_peers (s : State) (idle : Nat) :
    (idleAtMost idle s).peers = s.peers := rfl

@[simp] theorem idleAtMost_supply (s : State) (idle : Nat) :
    (idleAtMost idle s).supply = s.supply := rfl

@[simp] theorem idleAtMost_gates (s : State) (idle : Nat) :
    (idleAtMost idle s).gates = s.gates := rfl

@[simp] theorem idleAtMost_lights (s : State) (idle : Nat) :
    (idleAtMost idle s).lights = s.lights := rfl

@[simp] theorem idleAtMost_signs (s : State) (idle : Nat) :
    (idleAtMost idle s).signs = s.signs := rfl

@[simp] theorem idleAtMost_tool (s : State) (idle : Nat) :
    (idleAtMost idle s).tool = s.tool := rfl

@[simp] theorem idleAtMost_free (s : State) (idle : Nat) :
    (idleAtMost idle s).free = s.free := rfl

@[simp] theorem idleAtMost_pending (s : State) (idle : Nat) :
    (idleAtMost idle s).pending = s.pending := rfl

@[simp] theorem setWater_now (s : State) (w : WaterInput) (f : Filter Water) (c : Chatter) :
    (setWater w f c s).now = s.now := by cases w <;> rfl

@[simp] theorem setWater_mode (s : State) (w : WaterInput) (f : Filter Water) (c : Chatter) :
    (setWater w f c s).mode = s.mode := by cases w <;> rfl

@[simp] theorem setWater_startup (s : State) (w : WaterInput) (f : Filter Water) (c : Chatter) :
    (setWater w f c s).startup = s.startup := by cases w <;> rfl

@[simp] theorem setWater_fallback (s : State) (w : WaterInput) (f : Filter Water) (c : Chatter) :
    (setWater w f c s).fallback = s.fallback := by cases w <;> rfl

@[simp] theorem setWater_meas (s : State) (w : WaterInput) (f : Filter Water) (c : Chatter) :
    (setWater w f c s).meas = s.meas := by cases w <;> rfl

@[simp] theorem setWater_stage (s : State) (w : WaterInput) (f : Filter Water) (c : Chatter) :
    (setWater w f c s).stage = s.stage := by cases w <;> rfl

@[simp] theorem setWater_pumps (s : State) (w : WaterInput) (f : Filter Water) (c : Chatter) :
    (setWater w f c s).pumps = s.pumps := by cases w <;> rfl

@[simp] theorem setWater_line (s : State) (w : WaterInput) (f : Filter Water) (c : Chatter) :
    (setWater w f c s).line = s.line := by cases w <;> rfl

@[simp] theorem setWater_peers (s : State) (w : WaterInput) (f : Filter Water) (c : Chatter) :
    (setWater w f c s).peers = s.peers := by cases w <;> rfl

@[simp] theorem setWater_supply (s : State) (w : WaterInput) (f : Filter Water) (c : Chatter) :
    (setWater w f c s).supply = s.supply := by cases w <;> rfl

@[simp] theorem setWater_gates (s : State) (w : WaterInput) (f : Filter Water) (c : Chatter) :
    (setWater w f c s).gates = s.gates := by cases w <;> rfl

@[simp] theorem setWater_lights (s : State) (w : WaterInput) (f : Filter Water) (c : Chatter) :
    (setWater w f c s).lights = s.lights := by cases w <;> rfl

@[simp] theorem setWater_signs (s : State) (w : WaterInput) (f : Filter Water) (c : Chatter) :
    (setWater w f c s).signs = s.signs := by cases w <;> rfl

@[simp] theorem setWater_tool (s : State) (w : WaterInput) (f : Filter Water) (c : Chatter) :
    (setWater w f c s).tool = s.tool := by cases w <;> rfl

@[simp] theorem setWater_free (s : State) (w : WaterInput) (f : Filter Water) (c : Chatter) :
    (setWater w f c s).free = s.free := by cases w <;> rfl

@[simp] theorem setWater_pending (s : State) (w : WaterInput) (f : Filter Water) (c : Chatter) :
    (setWater w f c s).pending = s.pending := by cases w <;> rfl

@[simp] theorem putPump_pump (s : State) (p q : Fin 4) (r : Pump) :
    (putPump p r s).pump q = if q = p then r else s.pump q := Four.get_set _ _ _ _

@[simp] theorem putGate_gate (s : State) (c d : Fin 2) (g : Gate) :
    (putGate c g s).gate d = if d = c then settleReopen g else s.gate d := Two.get_set _ _ _ _

@[simp] theorem setWater_filter (s : State) (w : WaterInput) (f : Filter Water) (c : Chatter) :
    waterFilter (setWater w f c s) w = f := by cases w <;> rfl

@[simp] theorem setWater_chatter (s : State) (w : WaterInput) (f : Filter Water) (c : Chatter) :
    waterChatter (setWater w f c s) w = c := by cases w <;> rfl

theorem setWater_filter_of_ne (s : State) {w v : WaterInput} (f : Filter Water) (c : Chatter)
    (h : v ≠ w) : waterFilter (setWater w f c s) v = waterFilter s v := by
  cases w <;> cases v <;> first | rfl | exact absurd rfl h

theorem setWater_chatter_of_ne (s : State) {w v : WaterInput} (f : Filter Water) (c : Chatter)
    (h : v ≠ w) : waterChatter (setWater w f c s) v = waterChatter s v := by
  cases w <;> cases v <;> first | rfl | exact absurd rfl h

/-- A change waits for its owner exactly where one is listed. -/
theorem Filter.due_eq {α : Type} (f : Filter α) : f.due = !f.waiting.isEmpty := by
  cases h : f.waiting <;> simp [Filter.due, Filter.next, h]

/-- The feedback has been OPEN for 1 s at the last scan end: stably OPEN, with no change of it waiting
(R51, R57). -/
theorem openTooLong_iff (s : State) (p : Fin 4) :
    openTooLong s p = true ↔ (s.inputs.feedback.get p).stable = some .opened ∧
      (s.inputs.feedback.get p).due = false ∧
      scanEndSince (s.pump p).openSince openLimitTime s = true := by
  simp [openTooLong, and_assoc]

/-- A gap or a spoilt byte before a low: the partial frame is discarded, or nothing happens (R72). -/
theorem dropPassed_cases (idle : Nat) (s : State) :
    dropPassed idle s = discardPartial s ∨ dropPassed idle s = s := by
  unfold dropPassed
  split
  · exact .inl rfl
  · exact .inr rfl

/-- A disturbance changes the idle count and nothing else but what a passed gap has lost (R70, R72). -/
theorem receiveByte_of_disturbance {levels : BitVec 10} (h : disturbance levels = true) (idle : Nat)
    (s : State) : receiveByte idle levels s = idleSince (bits byteBits) (dropPassed idle s) := by
  simp only [receiveByte, idleBefore, h, if_true]

/-- A byte is taken into the receiver, the idle count beginning anew at the end of its stop bit, or half a
bit before it where that bit read low (R70, R72). -/
theorem receiveByte_of_byte {levels : BitVec 10} (h : disturbance levels = false) (idle : Nat)
    (s : State) : receiveByte idle levels s =
      idleSince (if framingError levels then halfBit else 0)
        (setReceiver ((dropPassed idle s).line.receiver.next (byteOf levels) (framingError levels))
          (dropPassed idle s)) := by
  simp [receiveByte, idleBefore, h]

/-- What begins the idle count anew changes nothing else. -/
@[simp] theorem idleSince_line (ago : Nat) (s : State) :
    (idleSince ago s).line = { s.line with idleFrom := max s.line.idleFrom (s.now - ago) } := rfl

/-- What begins the idle count anew keeps the receiver's other parts, and every other block. -/
theorem idleSince_eq (ago : Nat) (s : State) : idleSince ago s = { s with line := (idleSince ago s).line } :=
  rfl

/-- The lane has been clear for `d`: stably CLEAR with no change waiting, since a moment `d` ago or more
(R131, R133). -/
theorem laneClearFor_iff (d : Nat) (s : State) (c : Fin 2) :
    laneClearFor d s c = true ↔ (s.inputs.gate.get c).obstruction.stable = some .inactive ∧
      (s.inputs.gate.get c).obstruction.due = false ∧
      lastedFor (s.gate c).clearSince d s = true := by
  simp [laneClearFor, laneClear, and_assoc]

/-- A lane that is clear is not obstructed. -/
theorem obstructed_of_laneClear {s : State} {c : Fin 2} (h : laneClear s c = true) :
    obstructed s c = false := by
  simp only [laneClear, Bool.and_eq_true, decide_eq_true_eq] at h
  simp [obstructed, h.1]

/-- What a change of a limit can do to its channel: nothing where it is not fitted or in FAULT, a
LIMIT-CONFLICT where both limits are stably ACTIVE, and otherwise what the change received brings
(R132, R141, R142, R144). -/
theorem followLimit_cases (c : Fin 2) (l : LimitId) (s : State) :
    (((s.gate c).state = .notFitted ∨ (s.gate c).state = .fault) ∧ followLimit c l s = s) ∨
      (limitActive s c .openLimit = true ∧ limitActive s c .closedLimit = true ∧
        followLimit c l s = enterFault .limitConflict c s) ∨
      ((limitFilter s c l).given = some .active ∧ followLimit c l s = limitReached c l s) ∨
      ((limitFilter s c l).given ≠ some .active ∧ followLimit c l s = limitLeft c l s) := by
  unfold followLimit
  split
  · next h => exact .inl ⟨h, rfl⟩
  · split
    · next h =>
      rw [Bool.and_eq_true] at h
      exact .inr (.inl ⟨h.1, h.2, rfl⟩)
    · split
      · next h => exact .inr (.inr (.inl ⟨h, rfl⟩))
      · next h => exact .inr (.inr (.inr ⟨h, rfl⟩))

/-- What an owner receives: the oldest change, which leaves the list. -/
theorem Filter.take_of_next {α : Type} {f : Filter α} {v : α} (h : f.waiting.head? = some v) :
    f.take = { f with given := some v, waiting := f.waiting.tail } := by
  unfold Filter.take
  split
  · next e => simp [e] at h
  · next a as e => simp only [e, List.head?_cons, Option.some.injEq] at h; subst h; simp [e]

/-- One sample of a filter: what each of the rule's three cases does (R10). -/
theorem Filter.sample_cases {α : Type} [DecidableEq α] (f : Filter α) (v : α) :
    (f.stable = some v ∧ f.sample v = { f with count := 0 }) ∨
      (f.stable ≠ some v ∧ f.candidate ≠ some v ∧
        f.sample v = { f with candidate := some v, count := 1 }) ∨
      (f.stable ≠ some v ∧ f.candidate = some v ∧ f.count < 4 ∧
        f.sample v = { f with count := f.count + 1 }) ∨
      (f.stable ≠ some v ∧ f.candidate = some v ∧ 4 ≤ f.count ∧
        f.sample v = { f with stable := some v, count := 0, waiting := f.waiting ++ [v] }) := by
  unfold Filter.sample filterCount
  split
  · next h => exact .inl ⟨h, rfl⟩
  · next h =>
    split
    · next g =>
      split
      · next k => exact .inr (.inr (.inl ⟨h, g, by omega, rfl⟩))
      · next k => exact .inr (.inr (.inr ⟨h, g, by omega, rfl⟩))
    · next g => exact .inr (.inl ⟨h, g, rfl⟩)

/-- What handing a frame other than an answer to the line controller can do: it is refused uncounted while
the queue refuses all, placed where a place is free, placed with the earliest answer not in progress
dropped where none is, and otherwise refused and counted (R83). -/
theorem placeFrame_cases {kind : FrameKind} (h : kind ≠ .stationAnswer) (payload tag) (s : State) :
    (queueRefuses s = true ∧ placeFrame kind payload tag s = notSent kind tag s) ∨
      (queueRefuses s = false ∧ s.line.queue.length < 5 ∧
        placeFrame kind payload tag s = enqueue kind payload tag s) ∨
      (queueRefuses s = false ∧ 5 ≤ s.line.queue.length ∧ ∃ a, displaceable s = some a ∧
        placeFrame kind payload tag s =
          enqueue kind payload tag (countQueueDrops 1 (answerEnded a.tag (dequeue a.order s)))) ∨
      (queueRefuses s = false ∧ 5 ≤ s.line.queue.length ∧ displaceable s = none ∧
        placeFrame kind payload tag s = notSent kind tag (countQueueDrops 1 s)) := by
  unfold placeFrame queuePlaces
  rw [if_neg h]
  cases hr : queueRefuses s
  · rw [if_neg (by decide)]
    by_cases hl : s.line.queue.length < 5
    · exact .inr (.inl ⟨rfl, hl, if_pos hl⟩)
    · rw [if_neg hl]
      cases hd : displaceable s
      · exact .inr (.inr (.inr ⟨rfl, by omega, rfl, rfl⟩))
      · exact .inr (.inr (.inl ⟨rfl, by omega, _, rfl, rfl⟩))
  · exact .inl ⟨rfl, if_pos rfl⟩

/-- What a new value of the local stage does: nothing where it is the old one; otherwise a report falls
due, a rise to 3 or 4 places its STAGE CALL, and M is recomputed (R27). -/
theorem setLocal_cases (v : Nat) (s : State) :
    (v = s.stage.localStage ∧ setLocal v s = s) ∨
      (v ≠ s.stage.localStage ∧
        let t := reportDue { s with stage := { s.stage with localStage := v } }
        setLocal v s = recomputeM (if s.stage.localStage < v ∧ 3 ≤ v ∧ lineRuns t = true then
          placeFrame .stageCall (stagePayload v) .plain t else t)) := by
  unfold setLocal
  split
  · next h => exact .inl ⟨h, rfl⟩
  · next h => exact .inr ⟨h, rfl⟩

/-- The water changes of a level update, input by input (R13, R22; log entries 54 and 55). -/
theorem waterAtUpdate_eq (s : State) : waterAtUpdate s =
    chatterEnds .probe (takeWater (chatterEnds .highFloat (takeWater
      (chatterEnds .lowFloat (takeWater s .lowFloat)) .highFloat)) .probe) := rfl

end Sys2Proof.Machine
end

