-- ==== Sys2Proof/Laws/Hand.lean ====
section
/-! SUPPORT. What the shared operations of the hand-over can do: each changes only what `Safety.HandedOn`
lists, whatever it hands on to. A proof about a command cites `handOver_handed` and the lemma of the
operation it uses, and unfolds none of them. -/

theorem Sys2Proof.Safety.HandedOn.refl (s : Sys2Proof.Machine.State) : Sys2Proof.Safety.HandedOn s s := rfl

theorem Sys2Proof.Safety.HandedOn.trans {s t u : Sys2Proof.Machine.State}
    (h : Sys2Proof.Safety.HandedOn s t) (k : Sys2Proof.Safety.HandedOn t u) :
    Sys2Proof.Safety.HandedOn s u := by
  unfold Sys2Proof.Safety.HandedOn at *
  rw [k, h]

namespace Sys2Proof.Machine

open Sys2Proof.Safety

/-- An operation that changes only what handing on may change. -/
def Hands (f : State → State) : Prop := ∀ s, HandedOn s (f s)

theorem Hands.comp {f g : State → State} (hf : Hands f) (hg : Hands g) : Hands (fun s => f (g s)) :=
  fun s => (hg s).trans (hf (g s))

theorem reportDue_handed : Hands reportDue := by
  intro s
  unfold reportDue
  split
  · rfl
  · split
    · split <;> rfl
    · rfl

theorem enqueue_handed (kind payload tag) : Hands (enqueue kind payload tag) := fun _ => rfl

theorem dequeue_handed (order) : Hands (dequeue order) := fun _ => rfl

theorem countQueueDrops_handed (n) : Hands (countQueueDrops n) := fun _ => rfl

theorem answerEnded_handed (tag) : Hands (answerEnded tag) := by
  intro s
  unfold answerEnded
  split <;> rfl

theorem notSent_handed (kind tag) : Hands (notSent kind tag) := by
  intro s
  unfold notSent
  split
  · rfl
  · exact answerEnded_handed tag s
  · rfl

/-- Handing a frame to the line controller changes only the queue, its drop counter, and what the
placing block is told (R83). -/
theorem placeFrame_handed (kind payload tag) : Hands (placeFrame kind payload tag) := by
  intro s
  unfold placeFrame
  split
  · exact notSent_handed kind tag s
  · split
    · split
      · exact enqueue_handed _ _ _ s
      · exact (countQueueDrops_handed 1 s).trans (notSent_handed _ _ _)
    · split
      · exact enqueue_handed _ _ _ s
      · split
        · rename_i a _
          exact ((dequeue_handed a.order s).trans
            ((answerEnded_handed a.tag _).trans (countQueueDrops_handed 1 _))).trans
            (enqueue_handed _ _ _ _)
        · exact (countQueueDrops_handed 1 s).trans (notSent_handed _ _ _)

theorem withdrawIntent_handed : Hands withdrawIntent := by
  intro s
  unfold withdrawIntent
  split
  · rfl
  · split <;> rfl

theorem withdrawShedCalls_handed : Hands withdrawShedCalls := fun _ => rfl

theorem handLoad_handed {k : State → State} (hk : Hands k) : Hands (handLoad k) := by
  intro s
  unfold handLoad
  split
  · rfl
  · exact HandedOn.trans (t := { s with supply := { s.supply with load := committedLoad s } }) rfl
      (hk _)

theorem relight_handed {k : State → State} (hk : Hands k) : Hands (relight k) := by
  intro s
  unfold relight
  split
  · rfl
  · refine HandedOn.trans ?_ (handLoad_handed hk _)
    rfl

theorem checkQueuedPump_handed : Hands checkQueuedPump := by
  intro s
  unfold checkQueuedPump
  split
  · split
    · rfl
    · exact withdrawIntent_handed s
  · rfl

theorem trimAfter_handed (old) : Hands (trimAfter old) := by
  intro s
  unfold trimAfter
  split <;> rfl

theorem refreshSpeed_handed : Hands refreshSpeed := fun _ => rfl

/-- A change of pump records hands on only a report, the trim, a withdrawn intent and the load (R36, R65,
R109, R114). -/
theorem pumpsChanged_handed {k : State → State} (hk : Hands k) (old) : Hands (pumpsChanged k old) := by
  intro s
  have h1 : HandedOn s (if runningCount old = runningCount s then s else reportDue s) := by
    split
    · rfl
    · exact reportDue_handed s
  have h2 := h1.trans (((trimAfter_handed old _).trans (refreshSpeed_handed _)).trans
    (checkQueuedPump_handed _))
  have h3 : ∀ u, HandedOn s u → HandedOn s (if committedLoad u = u.supply.load then
      if offer old = offer u then u else k u else handLoad k u) := by
    intro u hu
    split
    · split
      · exact hu
      · exact hu.trans (hk _)
    · exact hu.trans (handLoad_handed hk _)
  exact h3 _ h2

theorem enterStarting_handed (p) : Hands (enterStarting p) := fun _ => rfl

/-- A start grant reaches only pump records and what they hand on (R49). -/
theorem grantStart_handed {k : State → State} (hk : Hands k) (p) : Hands (grantStart k p) := by
  intro s
  unfold grantStart
  split
  · exact (enterStarting_handed p s).trans (pumpsChanged_handed hk s _)
  · rfl

theorem tryIntent_handed : Hands tryIntent := by
  intro s
  unfold tryIntent
  split
  · rfl
  · split
    · refine HandedOn.trans ?_ (placeFrame_handed _ _ _ _)
      rfl
    · rfl

theorem tryIsland_handed {k : State → State} (hk : Hands k) : Hands (tryIsland k) := by
  intro s
  unfold tryIsland
  split
  · rfl
  · split
    · exact grantStart_handed hk _ s
    · rfl

theorem startRestore_handed : Hands startRestore := by
  intro s
  unfold startRestore
  split <;> rfl

theorem restartRestore_handed : Hands restartRestore := by
  intro s
  unfold restartRestore
  split <;> rfl

theorem checkRestore_handed : Hands checkRestore := by
  intro s
  unfold checkRestore
  split
  · exact startRestore_handed s
  · rfl

/-- A change of the shed offset reaches only the lights, the report schedule and what their load hands
on (R124). -/
theorem setOffset_handed {k : State → State} (hk : Hands k) (v) : Hands (setOffset k v) := by
  intro s
  unfold setOffset
  split
  · rfl
  · refine HandedOn.trans ?_ (((relight_handed hk _).trans (reportDue_handed _)).trans
      (startRestore_handed _))
    rfl

theorem raiseOffset_handed {k : State → State} (hk : Hands k) : Hands (raiseOffset k) :=
  fun s => setOffset_handed hk _ s

theorem checkShortfall_handed : Hands checkShortfall := by
  intro s
  unfold checkShortfall
  split
  · rfl
  · split <;> rfl

theorem checkShedCalls_handed : Hands checkShedCalls := by
  intro s
  unfold checkShedCalls
  split <;> rfl

/-- A short event reaches only the offset, the shed timers and a SHED CALL (R121). -/
theorem shortEvent_handed {k : State → State} (hk : Hands k) : Hands (shortEvent k) := by
  intro s
  unfold shortEvent
  dsimp only
  refine HandedOn.trans (t := { s with supply := { s.supply with
    shedCallUntil := some (s.now + shedCallInterval) } }) rfl ?_
  refine (raiseOffset_handed hk _).trans ?_
  split
  · exact (placeFrame_handed _ _ _ _).trans ((restartRestore_handed _).trans (checkShedCalls_handed _))
  · exact (restartRestore_handed _).trans (checkShedCalls_handed _)

theorem checkShort_handed {k : State → State} (hk : Hands k) : Hands (checkShort k) := by
  intro s
  unfold checkShort
  split
  · exact shortEvent_handed hk s
  · exact checkShedCalls_handed s

theorem checkShedding_handed {k : State → State} (hk : Hands k) : Hands (checkShedding k) :=
  fun s => (checkShortfall_handed s).trans ((checkShort_handed hk _).trans (checkRestore_handed _))

theorem putGate_handed (c g) : Hands (putGate c g) := fun _ => rfl

theorem tryClosing_handed (s : State) (c : Fin 2) : HandedOn s (tryClosing s c) := by
  unfold tryClosing
  repeat' split
  all_goals rfl

theorem foldl_handed {α : Type} {f : State → α → State} (hf : ∀ s a, HandedOn s (f s a)) :
    ∀ (l : List α) (s : State), HandedOn s (l.foldl f s)
  | [], _ => rfl
  | a :: l, s => (hf s a).trans (foldl_handed hf l (f s a))

/-- The closing rules reach only channel records (R130, R131, R133). -/
theorem tryClosings_handed : Hands tryClosings := fun s => foldl_handed tryClosing_handed _ s

theorem beginOpen_handed (c) : Hands (beginOpen c) := fun _ => rfl

/-- An opening reaches only channel records, the report schedule and what the load hands on (R138). -/
theorem tryOpening_handed {k : State → State} (hk : Hands k) (s : State) (c : Fin 2) :
    HandedOn s (tryOpening k s c) := by
  unfold tryOpening
  split
  · exact (beginOpen_handed c s).trans ((tryClosings_handed _).trans
      ((reportDue_handed _).trans (handLoad_handed hk _)))
  · rfl

theorem useFree_handed : Hands useFree := fun _ => rfl

theorem tryOpenings_handed {k : State → State} (hk : Hands k) : Hands (tryOpenings k) := by
  intro s
  unfold tryOpenings
  split
  · split
    · exact (useFree_handed s).trans ((tryOpening_handed hk _ 1).trans (tryOpening_handed hk _ 0))
    · exact (useFree_handed s).trans ((tryOpening_handed hk _ 0).trans (tryOpening_handed hk _ 1))
  · exact (tryOpening_handed hk _ 0).trans (tryOpening_handed hk _ 1)

/-- A change at the gates reaches only channel records, the report schedule and what the load hands
on. -/
theorem gatesChanged_handed {k : State → State} (hk : Hands k) (old) : Hands (gatesChanged k old) := by
  intro s
  unfold gatesChanged
  dsimp only
  refine (tryClosings_handed s).trans ?_
  split
  · exact (reportDue_handed _).trans ((handLoad_handed hk _).trans (tryOpenings_handed hk _))
  · exact (handLoad_handed hk _).trans (tryOpenings_handed hk _)

theorem computeH_handed : Hands computeH := fun _ => rfl

/-- The hand-over of the headroom, to any depth (R111). -/
theorem handH_handed : ∀ n, Hands (handH n)
  | 0 => computeH_handed
  | n + 1 => by
    have hk := handH_handed n
    intro s
    rw [handH]
    refine ((computeH_handed s).trans (tryIntent_handed _)).trans ?_
    split
    · exact (useFree_handed _).trans ((tryOpenings_handed hk _).trans
        ((tryIsland_handed hk _).trans (checkShedding_handed hk _)))
    · have hu : ∀ u : State, HandedOn u (if startRace u then useFree u else u) := by
        intro u
        split <;> rfl
      exact (hu _).trans ((tryIsland_handed hk _).trans
        ((checkShedding_handed hk _).trans (tryOpenings_handed hk _)))

/-- What a hand-over can do: only what handing on may change (R109, R111). -/
theorem handOver_handed : Hands handOver := by
  intro s
  unfold handOver
  split
  · exact handH_handed _ s
  · rfl

end Sys2Proof.Machine
end

