-- ==== Sys2Proof/Laws/Grants.lean ====
section
/-! SUPPORT. What the hand-over can do to a pump: nothing, or give one that waits its start grant
(`Safety.PumpsHeld`). -/

namespace Sys2Proof.Machine

open Sys2Proof.Safety

/-- An operation that leaves the clock, and every pump record but that of a waiting pump it grants. -/
def Grants (s t : State) : Prop := PumpsHeld s t ∧ t.now = s.now

/-- An operation that leaves the clock and the pump records. -/
def Rests (s t : State) : Prop := t.pumps = s.pumps ∧ t.now = s.now

theorem Rests.trans {s t u : State} (h : Rests s t) (k : Rests t u) : Rests s u :=
  ⟨k.1.trans h.1, k.2.trans h.2⟩

theorem Rests.grants {s t : State} (h : Rests s t) : Grants s t :=
  ⟨fun p => .inl (congrArg (fun x : Pumps => x.pump.get p) h.1), h.2⟩

theorem Grants.refl (s : State) : Grants s s := ⟨fun _ => .inl rfl, rfl⟩

theorem Grants.trans {s t u : State} (h : Grants s t) (k : Grants t u) : Grants s u := by
  refine ⟨fun p => ?_, k.2.trans h.2⟩
  rcases h.1 p with e | ⟨w, e⟩
  · rcases k.1 p with e' | ⟨w', e'⟩
    · exact .inl (e'.trans e)
    · exact .inr ⟨by rw [← e]; exact w', by rw [e', e, h.2]⟩
  · rcases k.1 p with e' | ⟨w', _⟩
    · exact .inr ⟨w, e'.trans e⟩
    · rw [e] at w'
      cases w'

theorem reportDue_rests (s : State) : Rests s (reportDue s) := by
  unfold reportDue
  split
  · exact ⟨rfl, rfl⟩
  · split
    · split <;> exact ⟨rfl, rfl⟩
    · exact ⟨rfl, rfl⟩

theorem notSent_rests (kind tag) (s : State) : Rests s (notSent kind tag s) := by
  unfold notSent answerEnded
  split
  · exact ⟨rfl, rfl⟩
  · split <;> exact ⟨rfl, rfl⟩
  · exact ⟨rfl, rfl⟩

theorem placeFrame_rests (kind payload tag) (s : State) : Rests s (placeFrame kind payload tag s) := by
  have ha : ∀ (tg : AnswerTag) (u : State), Rests u (answerEnded tg u) := by
    intro tg u
    unfold answerEnded
    split <;> exact ⟨rfl, rfl⟩
  unfold placeFrame
  split
  · exact notSent_rests _ _ _
  · split
    · split
      · exact ⟨rfl, rfl⟩
      · exact Rests.trans (t := countQueueDrops 1 s) ⟨rfl, rfl⟩ (notSent_rests _ _ _)
    · split
      · exact ⟨rfl, rfl⟩
      · split
        · rename_i a _
          exact Rests.trans (t := answerEnded a.tag (dequeue a.order s))
            (Rests.trans (t := dequeue a.order s) ⟨rfl, rfl⟩ (ha _ _)) ⟨rfl, rfl⟩
        · exact Rests.trans (t := countQueueDrops 1 s) ⟨rfl, rfl⟩ (notSent_rests _ _ _)

theorem withdrawIntent_rests (s : State) : Rests s (withdrawIntent s) := by
  unfold withdrawIntent
  split
  · exact ⟨rfl, rfl⟩
  · split <;> exact ⟨rfl, rfl⟩

theorem handLoad_grants {k : State → State} (hk : ∀ s, Grants s (k s)) (s : State) :
    Grants s (handLoad k s) := by
  unfold handLoad
  split
  · exact Grants.refl s
  · exact (Rests.grants (t := { s with supply := { s.supply with load := committedLoad s } })
      ⟨rfl, rfl⟩).trans (hk _)

theorem relight_grants {k : State → State} (hk : ∀ s, Grants s (k s)) (s : State) :
    Grants s (relight k s) := by
  unfold relight
  split
  · exact Grants.refl s
  · exact (Rests.grants (s := s) ⟨rfl, rfl⟩).trans (handLoad_grants hk _)

theorem trimSpeedIntent_rests (old s : State) :
    Rests s (checkQueuedPump (refreshSpeed (trimAfter old s))) := by
  have h1 : Rests s (refreshSpeed (trimAfter old s)) := by
    unfold trimAfter
    split <;> exact ⟨rfl, rfl⟩
  refine h1.trans ?_
  unfold checkQueuedPump
  split
  · split
    · exact ⟨rfl, rfl⟩
    · exact withdrawIntent_rests _
  · exact ⟨rfl, rfl⟩

/-- After a change of pump records only a start grant reaches a pump (R49). -/
theorem pumpsChanged_grants {k : State → State} (hk : ∀ s, Grants s (k s)) (old s : State) :
    Grants s (pumpsChanged k old s) := by
  have h1 : Rests s (if runningCount old = runningCount s then s else reportDue s) := by
    split
    · exact ⟨rfl, rfl⟩
    · exact reportDue_rests s
  have h2 := (h1.trans (trimSpeedIntent_rests old _)).grants
  have h3 : ∀ u, Grants s u → Grants s (if committedLoad u = u.supply.load then
      if offer old = offer u then u else k u else handLoad k u) := by
    intro u hu
    split
    · split
      · exact hu
      · exact hu.trans (hk _)
    · exact hu.trans (handLoad_grants hk _)
  exact h3 _ h2

/-- A pump in WAITING enters STARTING, and no other record changes (R49). -/
theorem enterStarting_grants (s : State) (p : Fin 4) (h : (s.pump p).state = .waiting) :
    Grants s (enterStarting p s) := by
  refine ⟨fun q => ?_, rfl⟩
  by_cases e : q = p
  · subst e
    refine .inr ⟨h, ?_⟩
    simp only [State.pump, enterStarting, putPump, Four.get_set, if_true]
    rfl
  · refine .inl ?_
    simp only [State.pump, enterStarting, putPump, Four.get_set, if_neg e]

theorem grantStart_grants {k : State → State} (hk : ∀ s, Grants s (k s)) (p : Fin 4) (s : State) :
    Grants s (grantStart k p s) := by
  unfold grantStart
  split
  · rename_i h
    refine (enterStarting_grants s p ?_).trans (pumpsChanged_grants hk _ _)
    unfold grantTaken at h
    simp only [Bool.and_eq_true, decide_eq_true_eq] at h
    exact h.1.1.1.2
  · exact Grants.refl s

theorem tryIsland_grants {k : State → State} (hk : ∀ s, Grants s (k s)) (s : State) :
    Grants s (tryIsland k s) := by
  unfold tryIsland
  split
  · exact Grants.refl s
  · split
    · exact grantStart_grants hk _ s
    · exact Grants.refl s

theorem tryIntent_rests (s : State) : Rests s (tryIntent s) := by
  unfold tryIntent
  split
  · exact ⟨rfl, rfl⟩
  · split
    · exact Rests.trans (s := s) ⟨rfl, rfl⟩ (placeFrame_rests _ _ _ _)
    · exact ⟨rfl, rfl⟩

theorem startRestore_rests (s : State) : Rests s (startRestore s) := by
  unfold startRestore
  split <;> exact ⟨rfl, rfl⟩

theorem setOffset_grants {k : State → State} (hk : ∀ s, Grants s (k s)) (v : Nat) (s : State) :
    Grants s (setOffset k v s) := by
  unfold setOffset
  split
  · exact Grants.refl s
  · refine Grants.trans ?_ ((reportDue_rests _).trans (startRestore_rests _)).grants
    refine Grants.trans ?_ (relight_grants hk _)
    exact Rests.grants ⟨rfl, rfl⟩

theorem checkShedding_grants {k : State → State} (hk : ∀ s, Grants s (k s)) (s : State) :
    Grants s (checkShedding k s) := by
  have shortfall : ∀ u, Rests u (checkShortfall u) := by
    intro u
    unfold checkShortfall
    split
    · exact ⟨rfl, rfl⟩
    · split <;> exact ⟨rfl, rfl⟩
  have calls : ∀ u, Rests u (checkShedCalls u) := by
    intro u
    unfold checkShedCalls
    split <;> exact ⟨rfl, rfl⟩
  have restart : ∀ u, Rests u (restartRestore u) := by
    intro u
    unfold restartRestore
    split <;> exact ⟨rfl, rfl⟩
  have restore : ∀ u, Rests u (checkRestore u) := by
    intro u
    unfold checkRestore
    split
    · exact startRestore_rests u
    · exact ⟨rfl, rfl⟩
  have event : ∀ u, Grants u (shortEvent k u) := by
    intro u
    have raised : Grants u (raiseOffset k { u with supply := { u.supply with
        shedCallUntil := some (u.now + shedCallInterval) } }) := by
      refine Grants.trans ?_ (setOffset_grants hk _ _)
      exact Rests.grants ⟨rfl, rfl⟩
    unfold shortEvent
    dsimp only
    split
    · exact raised.trans ((placeFrame_rests _ _ _ _).trans ((restart _).trans (calls _))).grants
    · exact raised.trans ((restart _).trans (calls _)).grants
  have short' : ∀ u, Grants u (checkShort k u) := by
    intro u
    unfold checkShort
    split
    · exact event u
    · exact (calls u).grants
  exact (shortfall s).grants.trans ((short' _).trans (restore _).grants)

theorem tryClosings_rests (s : State) : Rests s (tryClosings s) := by
  have one : ∀ (u : State) (c : Fin 2), Rests u (tryClosing u c) := by
    intro u c
    unfold tryClosing
    repeat' split
    all_goals exact ⟨rfl, rfl⟩
  have many : ∀ (l : List (Fin 2)) (u : State), Rests u (l.foldl tryClosing u) := by
    intro l
    induction l with
    | nil => exact fun _ => ⟨rfl, rfl⟩
    | cons c l ih => exact fun u => (one u c).trans (ih _)
  exact many _ s

theorem tryOpening_grants {k : State → State} (hk : ∀ s, Grants s (k s)) (s : State) (c : Fin 2) :
    Grants s (tryOpening k s c) := by
  unfold tryOpening
  split
  · exact (Rests.grants (s := s) (t := beginOpen c s) ⟨rfl, rfl⟩).trans
      (((tryClosings_rests _).trans (reportDue_rests _)).grants.trans (handLoad_grants hk _))
  · exact Grants.refl s

theorem tryOpenings_grants {k : State → State} (hk : ∀ s, Grants s (k s)) (s : State) :
    Grants s (tryOpenings k s) := by
  have free : Grants s (useFree s) := Rests.grants ⟨rfl, rfl⟩
  unfold tryOpenings
  split
  · split
    · exact free.trans ((tryOpening_grants hk _ 1).trans (tryOpening_grants hk _ 0))
    · exact free.trans ((tryOpening_grants hk _ 0).trans (tryOpening_grants hk _ 1))
  · exact (tryOpening_grants hk _ 0).trans (tryOpening_grants hk _ 1)

theorem gatesChanged_grants {k : State → State} (hk : ∀ s, Grants s (k s)) (old s : State) :
    Grants s (gatesChanged k old s) := by
  unfold gatesChanged
  dsimp only
  refine (tryClosings_rests s).grants.trans ?_
  split
  · exact (reportDue_rests _).grants.trans ((handLoad_grants hk _).trans (tryOpenings_grants hk _))
  · exact (handLoad_grants hk _).trans (tryOpenings_grants hk _)

theorem handH_grants : ∀ (n : Nat) (s : State), Grants s (handH n s)
  | 0, _ => Rests.grants ⟨rfl, rfl⟩
  | n + 1, s => by
    have hk := handH_grants n
    have free : ∀ u : State, Grants u (useFree u) := fun u => Rests.grants ⟨rfl, rfl⟩
    rw [handH]
    refine (Rests.grants (s := s) (t := computeH s) ⟨rfl, rfl⟩).trans
      ((tryIntent_rests _).grants.trans ?_)
    split
    · exact (free _).trans ((tryOpenings_grants hk _).trans
        ((tryIsland_grants hk _).trans (checkShedding_grants hk _)))
    · have hu : ∀ u : State, Grants u (if startRace u then useFree u else u) := by
        intro u
        split
        · exact free u
        · exact Grants.refl u
      exact (hu _).trans ((tryIsland_grants hk _).trans
        ((checkShedding_grants hk _).trans (tryOpenings_grants hk _)))

/-- A hand-over leaves every pump record but that of a waiting pump it grants (R49, R117, R119). -/
theorem handOver_grants (s : State) : Grants s (handOver s) := by
  unfold handOver
  split
  · exact handH_grants _ s
  · exact Grants.refl s

end Sys2Proof.Machine
end

