-- ==== Sys2Proof/WellFormed.lean ====
section
/-! DEFINITION. Well-formed commands: operands that the row's event can carry. The meanings do not rest on
it; a command that is not well formed names an event that the part cannot meet. -/

namespace Sys2Proof

/-- A station number that a peer can bear (R71, R93). -/
def stationNumber (n : Fin 16) : Bool := decide (n.val ≠ 0) && decide (n.val ≠ 15)

/-- The payload length of a frame's kind (R182). -/
def payloadFits (kind length : Nat) : Bool :=
  match kind with
  | 1 => decide (length = 12)
  | 2 => decide (length = 5)
  | 3 => decide (length = 1)
  | 4 => decide (length = 3)
  | 10 => decide (4 ≤ length) && decide (length ≤ 40)
  | _ => false

/-- The command's operands are such as its event can carry. -/
def Instr.wellFormed (i : Instr) : Bool :=
  match i with
  | .imageReadComplete _ image => decide (image.length = 256)
  | .statusReportReceived _ sender _ payload => stationNumber sender && payloadFits 1 payload.length
  | .stageCallReceived _ sender _ _ => stationNumber sender
  | .startIntentReceived _ sender _ _ _ _ _ => stationNumber sender
  | .shedCallReceived _ sender _ _ _ => stationNumber sender
  | .stationAnswerReceived _ sender _ payload =>
    stationNumber sender && payloadFits 10 payload.length
  | .ownNumberFrameReceived _ kind _ _ payload => payloadFits kind.toNat payload.length
  | .peerStale _ station => stationNumber station
  | .peerRemoval _ station => stationNumber station
  | .reservationExpiry _ sender => stationNumber sender
  | .configWrite _ _ _ _ data _ => decide (data.length ≤ 32)
  | .reset _ _ | .oscillatorStartTimer _ _ _ | .mainClockLoss _ | .clockReturn _ | .scanEnd _ _ _
  | .converterFault _ _ _ | .converterRecovery _ _ _ | .loopFault _ _ _ _ | .loopRecovery _ _ _ _
  | .levelUpdate _ | .rateTimer _ | .floatStateChange _ _ | .changeListEntryExpiry _ _
  | .chatterQuietTimer _ _ | .descentHoldExpiry _ | .selectorChange _ _ | .pumpFeedbackChange _ _
  | .feedbackCheck _ _ | .attemptFeedbackLoss _ _ | .attemptTimeout _ _ | .retryPauseExpiry _ _
  | .startHistoryEntryExpiry _ _ | .overcurrentTrip _ _ | .feedbackLossTrip _ _
  | .runOnTimerExpiry _ _ | .restTimerExpiry _ _ | .panelResetKey _ | .clearLockout _ _ _ _
  | .clearPumpRecord _ _ _ _ | .pumpRecordQuery _ _ _ _ | .frameReceived _ _ | .badFrameReceived _
  | .partialFrameDiscard _ | .ownNumberListExpiry _ | .attemptBegin _ | .collision _ _ | .frameSent _
  | .lineFault _ _ _
  | .probeTimerExpiry _ _ | .periodicReportDue _ | .reportMarkerPlace _ | .listenWindowEnd _
  | .islandStart _ | .clashTimerExpiry _ | .clearCounters _ _ _ _ | .lineCountersQuery _ _ _ _
  | .peerViewQuery _ _ _ _ | .supplyModeChange _ | .intentSpacingElapsed _ | .intentWindowExpiry _
  | .entryWaitExpiry _ | .startSpacingElapsed _ | .ownShortfallTimerExpiry _
  | .shedCallTimerExpiry _ | .restoreTimerExpiry _ | .deadTimeEnd _ _ | .gateLimitChange _ _ _
  | .driftTimeLapse _ _ | .obstructionChange _ _ | .obstructionClear3s _ _ | .obstructionClear5s _ _
  | .gateHoldPress _ | .gateHoldRelease _ | .forceCloseKeyChange _ | .reopenKey _
  | .lowStageTimeElapsed _ | .travelTimeout _ _ | .clearGateFault _ _ _ _
  | .reopenFloodGate _ _ _ _ | .gateRecordQuery _ _ _ _ | .dayNightChange _ | .entranceStepMove _
  | .lightingRecordQuery _ _ _ _ | .dwellTimerExpiry _ | .flashClockHalf _
  | .stationSummaryQuery _ _ _ _ | .measurementRecordQuery _ _ _ _
  | .configurationChunkQuery _ _ _ _ | .unknownToolRequest _ _ _ _ _ _ | .memoryStatusPoll _ _
  | .readBackCompare _ _ | .configWriteTimeout _ | .restart _ _ _ _ | .restartBegin _
  | .fallbackOutputTime _ _ | .fallbackInputSample _ _ | .resetPinRelease _
  | .byteReceived _ _ _ => true

end Sys2Proof
end

