-- ==== Sys2Proof/Laws/PerInstr.lean ====
section
/-! SUPPORT. The family ClockField of per-command laws: the time that a command carries is its first field,
and whether a command is well formed does not rest on it (log entry 1). -/

namespace Sys2Proof.Laws

/-- The command with another time carried. -/
def withTime (time : Nat) (i : Instr) : Instr :=
  match i with
  | .reset _ event => .reset time event
  | .oscillatorStartTimer _ clockRuns straps => .oscillatorStartTimer time clockRuns straps
  | .imageReadComplete _ image => .imageReadComplete time image
  | .mainClockLoss _ => .mainClockLoss time
  | .clockReturn _ => .clockReturn time
  | .scanEnd _ scan pins => .scanEnd time scan pins
  | .converterFault _ scan pins => .converterFault time scan pins
  | .converterRecovery _ scan pins => .converterRecovery time scan pins
  | .loopFault _ loop scan pins => .loopFault time loop scan pins
  | .loopRecovery _ loop scan pins => .loopRecovery time loop scan pins
  | .levelUpdate _ => .levelUpdate time
  | .rateTimer _ => .rateTimer time
  | .floatStateChange _ input => .floatStateChange time input
  | .changeListEntryExpiry _ input => .changeListEntryExpiry time input
  | .chatterQuietTimer _ input => .chatterQuietTimer time input
  | .descentHoldExpiry _ => .descentHoldExpiry time
  | .selectorChange _ pump => .selectorChange time pump
  | .pumpFeedbackChange _ pump => .pumpFeedbackChange time pump
  | .feedbackCheck _ pump => .feedbackCheck time pump
  | .attemptFeedbackLoss _ pump => .attemptFeedbackLoss time pump
  | .attemptTimeout _ pump => .attemptTimeout time pump
  | .retryPauseExpiry _ pump => .retryPauseExpiry time pump
  | .startHistoryEntryExpiry _ pump => .startHistoryEntryExpiry time pump
  | .overcurrentTrip _ pump => .overcurrentTrip time pump
  | .feedbackLossTrip _ pump => .feedbackLossTrip time pump
  | .runOnTimerExpiry _ pump => .runOnTimerExpiry time pump
  | .restTimerExpiry _ pump => .restTimerExpiry time pump
  | .panelResetKey _ => .panelResetKey time
  | .clearLockout _ target seq index => .clearLockout time target seq index
  | .clearPumpRecord _ target seq index => .clearPumpRecord time target seq index
  | .pumpRecordQuery _ target seq index => .pumpRecordQuery time target seq index
  | .frameReceived _ lockPin => .frameReceived time lockPin
  | .badFrameReceived _ => .badFrameReceived time
  | .partialFrameDiscard silence => .partialFrameDiscard { silence with dt := time }
  | .statusReportReceived _ sender seq payload => .statusReportReceived time sender seq payload
  | .stageCallReceived _ sender seq stage => .stageCallReceived time sender seq stage
  | .startIntentReceived _ sender seq pump inrush urgency attempt => .startIntentReceived time sender seq pump inrush urgency attempt
  | .shedCallReceived _ sender seq shortfall urgency => .shedCallReceived time sender seq shortfall urgency
  | .stationAnswerReceived _ sender seq payload => .stationAnswerReceived time sender seq payload
  | .ownNumberFrameReceived _ kind target seq payload => .ownNumberFrameReceived time kind target seq payload
  | .ownNumberListExpiry _ => .ownNumberListExpiry time
  | .peerStale _ station => .peerStale time station
  | .peerRemoval _ station => .peerRemoval time station
  | .reservationExpiry _ sender => .reservationExpiry time sender
  | .attemptBegin silence => .attemptBegin { silence with dt := time }
  | .collision _ rxd => .collision time rxd
  | .frameSent _ => .frameSent time
  | .lineFault _ sign lowFor => .lineFault time sign lowFor
  | .probeTimerExpiry _ idle => .probeTimerExpiry time idle
  | .periodicReportDue _ => .periodicReportDue time
  | .reportMarkerPlace _ => .reportMarkerPlace time
  | .listenWindowEnd _ => .listenWindowEnd time
  | .islandStart _ => .islandStart time
  | .clashTimerExpiry _ => .clashTimerExpiry time
  | .clearCounters _ target seq index => .clearCounters time target seq index
  | .lineCountersQuery _ target seq index => .lineCountersQuery time target seq index
  | .peerViewQuery _ target seq index => .peerViewQuery time target seq index
  | .supplyModeChange _ => .supplyModeChange time
  | .intentSpacingElapsed _ => .intentSpacingElapsed time
  | .intentWindowExpiry _ => .intentWindowExpiry time
  | .entryWaitExpiry _ => .entryWaitExpiry time
  | .startSpacingElapsed _ => .startSpacingElapsed time
  | .ownShortfallTimerExpiry _ => .ownShortfallTimerExpiry time
  | .shedCallTimerExpiry _ => .shedCallTimerExpiry time
  | .restoreTimerExpiry _ => .restoreTimerExpiry time
  | .deadTimeEnd _ channel => .deadTimeEnd time channel
  | .gateLimitChange _ channel limit => .gateLimitChange time channel limit
  | .driftTimeLapse _ channel => .driftTimeLapse time channel
  | .obstructionChange _ channel => .obstructionChange time channel
  | .obstructionClear3s _ channel => .obstructionClear3s time channel
  | .obstructionClear5s _ channel => .obstructionClear5s time channel
  | .gateHoldPress _ => .gateHoldPress time
  | .gateHoldRelease _ => .gateHoldRelease time
  | .forceCloseKeyChange _ => .forceCloseKeyChange time
  | .reopenKey _ => .reopenKey time
  | .lowStageTimeElapsed _ => .lowStageTimeElapsed time
  | .travelTimeout _ channel => .travelTimeout time channel
  | .clearGateFault _ target seq index => .clearGateFault time target seq index
  | .reopenFloodGate _ target seq index => .reopenFloodGate time target seq index
  | .gateRecordQuery _ target seq index => .gateRecordQuery time target seq index
  | .dayNightChange _ => .dayNightChange time
  | .entranceStepMove _ => .entranceStepMove time
  | .lightingRecordQuery _ target seq index => .lightingRecordQuery time target seq index
  | .dwellTimerExpiry _ => .dwellTimerExpiry time
  | .flashClockHalf _ => .flashClockHalf time
  | .stationSummaryQuery _ target seq index => .stationSummaryQuery time target seq index
  | .measurementRecordQuery _ target seq index => .measurementRecordQuery time target seq index
  | .configurationChunkQuery _ target seq index => .configurationChunkQuery time target seq index
  | .unknownToolRequest _ target seq order code index => .unknownToolRequest time target seq order code index
  | .configWrite _ target seq offset data lockPin => .configWrite time target seq offset data lockPin
  | .memoryStatusPoll _ status => .memoryStatusPoll time status
  | .readBackCompare _ data => .readBackCompare time data
  | .configWriteTimeout _ => .configWriteTimeout time
  | .restart _ target seq index => .restart time target seq index
  | .restartBegin _ => .restartBegin time
  | .fallbackOutputTime _ output => .fallbackOutputTime time output
  | .fallbackInputSample _ pins => .fallbackInputSample time pins
  | .resetPinRelease _ => .resetPinRelease time
  | .byteReceived _ idle levels => .byteReceived time idle levels

/-- A command may carry any time: it is well formed with one exactly when it is with another. -/
def ClockField.Statement (i : Instr) : Prop :=
  ∀ time, (withTime time i).wellFormed = i.wellFormed

theorem ClockField.reset (dt : Nat) (event : ResetEvent) :
    ClockField.Statement (.reset dt event) :=
  fun _ => rfl

theorem ClockField.oscillatorStartTimer (dt : Nat) (clockRuns : Bool) (straps : BitVec 4) :
    ClockField.Statement (.oscillatorStartTimer dt clockRuns straps) :=
  fun _ => rfl

theorem ClockField.imageReadComplete (dt : Nat) (image : List Byte) :
    ClockField.Statement (.imageReadComplete dt image) :=
  fun _ => rfl

theorem ClockField.mainClockLoss (dt : Nat) :
    ClockField.Statement (.mainClockLoss dt) :=
  fun _ => rfl

theorem ClockField.clockReturn (dt : Nat) :
    ClockField.Statement (.clockReturn dt) :=
  fun _ => rfl

theorem ClockField.scanEnd (dt : Nat) (scan : Scan) (pins : Pins) :
    ClockField.Statement (.scanEnd dt scan pins) :=
  fun _ => rfl

theorem ClockField.converterFault (dt : Nat) (scan : Scan) (pins : Pins) :
    ClockField.Statement (.converterFault dt scan pins) :=
  fun _ => rfl

theorem ClockField.converterRecovery (dt : Nat) (scan : Scan) (pins : Pins) :
    ClockField.Statement (.converterRecovery dt scan pins) :=
  fun _ => rfl

theorem ClockField.loopFault (dt : Nat) (loop : LoopId) (scan : Scan) (pins : Pins) :
    ClockField.Statement (.loopFault dt loop scan pins) :=
  fun _ => rfl

theorem ClockField.loopRecovery (dt : Nat) (loop : LoopId) (scan : Scan) (pins : Pins) :
    ClockField.Statement (.loopRecovery dt loop scan pins) :=
  fun _ => rfl

theorem ClockField.levelUpdate (dt : Nat) :
    ClockField.Statement (.levelUpdate dt) :=
  fun _ => rfl

theorem ClockField.rateTimer (dt : Nat) :
    ClockField.Statement (.rateTimer dt) :=
  fun _ => rfl

theorem ClockField.floatStateChange (dt : Nat) (input : WaterInput) :
    ClockField.Statement (.floatStateChange dt input) :=
  fun _ => rfl

theorem ClockField.changeListEntryExpiry (dt : Nat) (input : WaterInput) :
    ClockField.Statement (.changeListEntryExpiry dt input) :=
  fun _ => rfl

theorem ClockField.chatterQuietTimer (dt : Nat) (input : WaterInput) :
    ClockField.Statement (.chatterQuietTimer dt input) :=
  fun _ => rfl

theorem ClockField.descentHoldExpiry (dt : Nat) :
    ClockField.Statement (.descentHoldExpiry dt) :=
  fun _ => rfl

theorem ClockField.selectorChange (dt : Nat) (pump : Fin 4) :
    ClockField.Statement (.selectorChange dt pump) :=
  fun _ => rfl

theorem ClockField.pumpFeedbackChange (dt : Nat) (pump : Fin 4) :
    ClockField.Statement (.pumpFeedbackChange dt pump) :=
  fun _ => rfl

theorem ClockField.feedbackCheck (dt : Nat) (pump : Fin 4) :
    ClockField.Statement (.feedbackCheck dt pump) :=
  fun _ => rfl

theorem ClockField.attemptFeedbackLoss (dt : Nat) (pump : Fin 4) :
    ClockField.Statement (.attemptFeedbackLoss dt pump) :=
  fun _ => rfl

theorem ClockField.attemptTimeout (dt : Nat) (pump : Fin 4) :
    ClockField.Statement (.attemptTimeout dt pump) :=
  fun _ => rfl

theorem ClockField.retryPauseExpiry (dt : Nat) (pump : Fin 4) :
    ClockField.Statement (.retryPauseExpiry dt pump) :=
  fun _ => rfl

theorem ClockField.startHistoryEntryExpiry (dt : Nat) (pump : Fin 4) :
    ClockField.Statement (.startHistoryEntryExpiry dt pump) :=
  fun _ => rfl

theorem ClockField.overcurrentTrip (dt : Nat) (pump : Fin 4) :
    ClockField.Statement (.overcurrentTrip dt pump) :=
  fun _ => rfl

theorem ClockField.feedbackLossTrip (dt : Nat) (pump : Fin 4) :
    ClockField.Statement (.feedbackLossTrip dt pump) :=
  fun _ => rfl

theorem ClockField.runOnTimerExpiry (dt : Nat) (pump : Fin 4) :
    ClockField.Statement (.runOnTimerExpiry dt pump) :=
  fun _ => rfl

theorem ClockField.restTimerExpiry (dt : Nat) (pump : Fin 4) :
    ClockField.Statement (.restTimerExpiry dt pump) :=
  fun _ => rfl

theorem ClockField.panelResetKey (dt : Nat) :
    ClockField.Statement (.panelResetKey dt) :=
  fun _ => rfl

theorem ClockField.clearLockout (dt : Nat) (target : Fin 16) (seq index : Byte) :
    ClockField.Statement (.clearLockout dt target seq index) :=
  fun _ => rfl

theorem ClockField.clearPumpRecord (dt : Nat) (target : Fin 16) (seq index : Byte) :
    ClockField.Statement (.clearPumpRecord dt target seq index) :=
  fun _ => rfl

theorem ClockField.pumpRecordQuery (dt : Nat) (target : Fin 16) (seq index : Byte) :
    ClockField.Statement (.pumpRecordQuery dt target seq index) :=
  fun _ => rfl

theorem ClockField.frameReceived (dt : Nat) (lockPin : Bool) :
    ClockField.Statement (.frameReceived dt lockPin) :=
  fun _ => rfl

theorem ClockField.badFrameReceived (dt : Nat) :
    ClockField.Statement (.badFrameReceived dt) :=
  fun _ => rfl

theorem ClockField.partialFrameDiscard (silence : Silence) :
    ClockField.Statement (.partialFrameDiscard silence) :=
  fun _ => rfl

theorem ClockField.statusReportReceived (dt : Nat) (sender : Fin 16) (seq : Byte) (payload : List Byte) :
    ClockField.Statement (.statusReportReceived dt sender seq payload) :=
  fun _ => rfl

theorem ClockField.stageCallReceived (dt : Nat) (sender : Fin 16) (seq : Byte) (stage : Byte) :
    ClockField.Statement (.stageCallReceived dt sender seq stage) :=
  fun _ => rfl

theorem ClockField.startIntentReceived (dt : Nat) (sender : Fin 16) (seq : Byte) (pump : Byte) (inrush : BitVec 16) (urgency attempt : Byte) :
    ClockField.Statement (.startIntentReceived dt sender seq pump inrush urgency attempt) :=
  fun _ => rfl

theorem ClockField.shedCallReceived (dt : Nat) (sender : Fin 16) (seq : Byte) (shortfall : BitVec 16) (urgency : Byte) :
    ClockField.Statement (.shedCallReceived dt sender seq shortfall urgency) :=
  fun _ => rfl

theorem ClockField.stationAnswerReceived (dt : Nat) (sender : Fin 16) (seq : Byte) (payload : List Byte) :
    ClockField.Statement (.stationAnswerReceived dt sender seq payload) :=
  fun _ => rfl

theorem ClockField.ownNumberFrameReceived (dt : Nat) (kind : Byte) (target : Fin 16) (seq : Byte) (payload : List Byte) :
    ClockField.Statement (.ownNumberFrameReceived dt kind target seq payload) :=
  fun _ => rfl

theorem ClockField.ownNumberListExpiry (dt : Nat) :
    ClockField.Statement (.ownNumberListExpiry dt) :=
  fun _ => rfl

theorem ClockField.peerStale (dt : Nat) (station : Fin 16) :
    ClockField.Statement (.peerStale dt station) :=
  fun _ => rfl

theorem ClockField.peerRemoval (dt : Nat) (station : Fin 16) :
    ClockField.Statement (.peerRemoval dt station) :=
  fun _ => rfl

theorem ClockField.reservationExpiry (dt : Nat) (sender : Fin 16) :
    ClockField.Statement (.reservationExpiry dt sender) :=
  fun _ => rfl

theorem ClockField.attemptBegin (silence : Silence) :
    ClockField.Statement (.attemptBegin silence) :=
  fun _ => rfl

theorem ClockField.collision (dt : Nat) (rxd : Bool) :
    ClockField.Statement (.collision dt rxd) :=
  fun _ => rfl

theorem ClockField.frameSent (dt : Nat) :
    ClockField.Statement (.frameSent dt) :=
  fun _ => rfl

theorem ClockField.lineFault (dt : Nat) (sign : LineFaultSign) (lowFor : Nat) :
    ClockField.Statement (.lineFault dt sign lowFor) :=
  fun _ => rfl

theorem ClockField.probeTimerExpiry (dt : Nat) (idle : Nat) :
    ClockField.Statement (.probeTimerExpiry dt idle) :=
  fun _ => rfl

theorem ClockField.periodicReportDue (dt : Nat) :
    ClockField.Statement (.periodicReportDue dt) :=
  fun _ => rfl

theorem ClockField.reportMarkerPlace (dt : Nat) :
    ClockField.Statement (.reportMarkerPlace dt) :=
  fun _ => rfl

theorem ClockField.listenWindowEnd (dt : Nat) :
    ClockField.Statement (.listenWindowEnd dt) :=
  fun _ => rfl

theorem ClockField.islandStart (dt : Nat) :
    ClockField.Statement (.islandStart dt) :=
  fun _ => rfl

theorem ClockField.clashTimerExpiry (dt : Nat) :
    ClockField.Statement (.clashTimerExpiry dt) :=
  fun _ => rfl

theorem ClockField.clearCounters (dt : Nat) (target : Fin 16) (seq index : Byte) :
    ClockField.Statement (.clearCounters dt target seq index) :=
  fun _ => rfl

theorem ClockField.lineCountersQuery (dt : Nat) (target : Fin 16) (seq index : Byte) :
    ClockField.Statement (.lineCountersQuery dt target seq index) :=
  fun _ => rfl

theorem ClockField.peerViewQuery (dt : Nat) (target : Fin 16) (seq index : Byte) :
    ClockField.Statement (.peerViewQuery dt target seq index) :=
  fun _ => rfl

theorem ClockField.supplyModeChange (dt : Nat) :
    ClockField.Statement (.supplyModeChange dt) :=
  fun _ => rfl

theorem ClockField.intentSpacingElapsed (dt : Nat) :
    ClockField.Statement (.intentSpacingElapsed dt) :=
  fun _ => rfl

theorem ClockField.intentWindowExpiry (dt : Nat) :
    ClockField.Statement (.intentWindowExpiry dt) :=
  fun _ => rfl

theorem ClockField.entryWaitExpiry (dt : Nat) :
    ClockField.Statement (.entryWaitExpiry dt) :=
  fun _ => rfl

theorem ClockField.startSpacingElapsed (dt : Nat) :
    ClockField.Statement (.startSpacingElapsed dt) :=
  fun _ => rfl

theorem ClockField.ownShortfallTimerExpiry (dt : Nat) :
    ClockField.Statement (.ownShortfallTimerExpiry dt) :=
  fun _ => rfl

theorem ClockField.shedCallTimerExpiry (dt : Nat) :
    ClockField.Statement (.shedCallTimerExpiry dt) :=
  fun _ => rfl

theorem ClockField.restoreTimerExpiry (dt : Nat) :
    ClockField.Statement (.restoreTimerExpiry dt) :=
  fun _ => rfl

theorem ClockField.deadTimeEnd (dt : Nat) (channel : Fin 2) :
    ClockField.Statement (.deadTimeEnd dt channel) :=
  fun _ => rfl

theorem ClockField.gateLimitChange (dt : Nat) (channel : Fin 2) (limit : LimitId) :
    ClockField.Statement (.gateLimitChange dt channel limit) :=
  fun _ => rfl

theorem ClockField.driftTimeLapse (dt : Nat) (channel : Fin 2) :
    ClockField.Statement (.driftTimeLapse dt channel) :=
  fun _ => rfl

theorem ClockField.obstructionChange (dt : Nat) (channel : Fin 2) :
    ClockField.Statement (.obstructionChange dt channel) :=
  fun _ => rfl

theorem ClockField.obstructionClear3s (dt : Nat) (channel : Fin 2) :
    ClockField.Statement (.obstructionClear3s dt channel) :=
  fun _ => rfl

theorem ClockField.obstructionClear5s (dt : Nat) (channel : Fin 2) :
    ClockField.Statement (.obstructionClear5s dt channel) :=
  fun _ => rfl

theorem ClockField.gateHoldPress (dt : Nat) :
    ClockField.Statement (.gateHoldPress dt) :=
  fun _ => rfl

theorem ClockField.gateHoldRelease (dt : Nat) :
    ClockField.Statement (.gateHoldRelease dt) :=
  fun _ => rfl

theorem ClockField.forceCloseKeyChange (dt : Nat) :
    ClockField.Statement (.forceCloseKeyChange dt) :=
  fun _ => rfl

theorem ClockField.reopenKey (dt : Nat) :
    ClockField.Statement (.reopenKey dt) :=
  fun _ => rfl

theorem ClockField.lowStageTimeElapsed (dt : Nat) :
    ClockField.Statement (.lowStageTimeElapsed dt) :=
  fun _ => rfl

theorem ClockField.travelTimeout (dt : Nat) (channel : Fin 2) :
    ClockField.Statement (.travelTimeout dt channel) :=
  fun _ => rfl

theorem ClockField.clearGateFault (dt : Nat) (target : Fin 16) (seq index : Byte) :
    ClockField.Statement (.clearGateFault dt target seq index) :=
  fun _ => rfl

theorem ClockField.reopenFloodGate (dt : Nat) (target : Fin 16) (seq index : Byte) :
    ClockField.Statement (.reopenFloodGate dt target seq index) :=
  fun _ => rfl

theorem ClockField.gateRecordQuery (dt : Nat) (target : Fin 16) (seq index : Byte) :
    ClockField.Statement (.gateRecordQuery dt target seq index) :=
  fun _ => rfl

theorem ClockField.dayNightChange (dt : Nat) :
    ClockField.Statement (.dayNightChange dt) :=
  fun _ => rfl

theorem ClockField.entranceStepMove (dt : Nat) :
    ClockField.Statement (.entranceStepMove dt) :=
  fun _ => rfl

theorem ClockField.lightingRecordQuery (dt : Nat) (target : Fin 16) (seq index : Byte) :
    ClockField.Statement (.lightingRecordQuery dt target seq index) :=
  fun _ => rfl

theorem ClockField.dwellTimerExpiry (dt : Nat) :
    ClockField.Statement (.dwellTimerExpiry dt) :=
  fun _ => rfl

theorem ClockField.flashClockHalf (dt : Nat) :
    ClockField.Statement (.flashClockHalf dt) :=
  fun _ => rfl

theorem ClockField.stationSummaryQuery (dt : Nat) (target : Fin 16) (seq index : Byte) :
    ClockField.Statement (.stationSummaryQuery dt target seq index) :=
  fun _ => rfl

theorem ClockField.measurementRecordQuery (dt : Nat) (target : Fin 16) (seq index : Byte) :
    ClockField.Statement (.measurementRecordQuery dt target seq index) :=
  fun _ => rfl

theorem ClockField.configurationChunkQuery (dt : Nat) (target : Fin 16) (seq index : Byte) :
    ClockField.Statement (.configurationChunkQuery dt target seq index) :=
  fun _ => rfl

theorem ClockField.unknownToolRequest (dt : Nat) (target : Fin 16) (seq : Byte) (order : Bool) (code index : Byte) :
    ClockField.Statement (.unknownToolRequest dt target seq order code index) :=
  fun _ => rfl

theorem ClockField.configWrite (dt : Nat) (target : Fin 16) (seq offset : Byte) (data : List Byte) (lockPin : Bool) :
    ClockField.Statement (.configWrite dt target seq offset data lockPin) :=
  fun _ => rfl

theorem ClockField.memoryStatusPoll (dt : Nat) (status : Byte) :
    ClockField.Statement (.memoryStatusPoll dt status) :=
  fun _ => rfl

theorem ClockField.readBackCompare (dt : Nat) (data : List Byte) :
    ClockField.Statement (.readBackCompare dt data) :=
  fun _ => rfl

theorem ClockField.configWriteTimeout (dt : Nat) :
    ClockField.Statement (.configWriteTimeout dt) :=
  fun _ => rfl

theorem ClockField.restart (dt : Nat) (target : Fin 16) (seq index : Byte) :
    ClockField.Statement (.restart dt target seq index) :=
  fun _ => rfl

theorem ClockField.restartBegin (dt : Nat) :
    ClockField.Statement (.restartBegin dt) :=
  fun _ => rfl

theorem ClockField.fallbackOutputTime (dt : Nat) (output : Fin 4) :
    ClockField.Statement (.fallbackOutputTime dt output) :=
  fun _ => rfl

theorem ClockField.fallbackInputSample (dt : Nat) (pins : Pins) :
    ClockField.Statement (.fallbackInputSample dt pins) :=
  fun _ => rfl

theorem ClockField.resetPinRelease (dt : Nat) :
    ClockField.Statement (.resetPinRelease dt) :=
  fun _ => rfl

theorem ClockField.byteReceived (dt idle : Nat) (levels : BitVec 10) :
    ClockField.Statement (.byteReceived dt idle levels) :=
  fun _ => rfl

end Sys2Proof.Laws
end

