-- ==== Sys2Proof/Tests/Slice0.lean ====
section
/-! SUPPORT. Named tests: worked cases of the spec on single operations, ill-formed commands refused, small
steps, and for every obligation with hypotheses a concrete state and operands that meet them. -/

namespace Sys2Proof.Tests

open Sys2Proof.Machine Sys2Proof.Safety

/-! ## Worked cases of the spec -/

/-- R71: the check of the nine ASCII digits. -/
theorem test_crc_of_digits :
    crc16 [0x31, 0x32, 0x33, 0x34, 0x35, 0x36, 0x37, 0x38, 0x39] = 0x29B1#16 := by decide +kernel

/-- Section 1.4: codes 1920, 1936 and 1000 against spans 4000 and 2500. -/
theorem test_loop_levels :
    levelOfMean 4000 1920 = 2000 ∧ levelOfMean 4000 1936 = 2025 ∧ levelOfMean 2500 1000 = 351 := by
  decide

/-- R7: the ends of the clamp. -/
theorem test_loop_level_clamps :
    levelOfMean 4000 640 = 0 ∧ levelOfMean 4000 639 = 0 ∧ levelOfMean 4000 3200 = 4000 ∧
      levelOfMean 4000 3520 = 4000 := by decide

/-- Section 1.9: the storm case and truncation toward zero. -/
theorem test_rate_and_inflow :
    nextRate 40 52 = 43 ∧ inflowOf 204 60 43 = 462 ∧ inflowOf 240 400 2000 = 65535 ∧
      inflowOf 204 60 (-43) = 0 ∧ inflowOf 10 7 (-3) = 8 ∧ inflowOf 10 7 3 = 12 := by decide

/-- R33 to R35: the ceilings of the demand. -/
theorem test_flow_pumps : ceilDiv 462 120 = 4 ∧ ceilDiv 480 120 = 4 ∧ ceilDiv 481 120 = 5 := by
  decide

/-- R37: the codes of the speed reference. -/
theorem test_speed_codes : speedCode 100 = 255 ∧ speedCode 67 = 170 ∧ speedCode 40 = 102 := by decide

/-- The settings of the tests: a sump station with four pumps, a paired barrier and flood gate. -/
def station : Settings :=
  { Settings.absent with
    sumpFitted := true
    probeFitted := true
    variableTrim := true
    pairing := true
    pumpCount := 4
    span := 4000
    area := 60
    agreeBand := 100
    t0 := 400
    t1 := 800
    t2 := 1600
    t3 := 2600
    t4 := 3200
    hysteresis := 100
    ratedFlow := 120
    pRun := 450
    pIn := 900
    settleTime := 5
    runOnTime := 30
    restTime := 60
    startsPerHour := 6
    troubleThreshold := 3
    noLoadCode := 200
    settleCode := 1500
    tripCode := 2500
    budgetGenerator := 5000
    budgetMains := 9000
    islandShare := 40
    restoreMargin := 1000
    gate := ⟨⟨.barrier, 20, 15⟩, ⟨.floodgate, 90, 40⟩⟩
    circuit := { Settings.absent.circuit with
      e0 := ⟨.emergency, 20, 0, 0, 0⟩
      e1 := ⟨.interior, 60, 80, 140, 100⟩
      e2 := ⟨.interior, 60, 80, 140, 100⟩ }
    emergencyLevel := 200
    evacuationLevel := 150
    step := { Settings.absent.step with
      e0 := ⟨0, 60⟩, e1 := ⟨400, 90⟩, e2 := ⟨900, 130⟩ }
    scene := [⟨⟨.on, .flash, .flashInverted, .off, .off, .off, .off, .off⟩, 4⟩,
      ⟨⟨.off, .flash, .flashInverted, .on, .off, .off, .off, .off⟩, 2⟩]
    program := [[0], [0, 1], [0, 1], [1], [1, 0]] }

/-- Section 2.2: the level stage through a storm. -/
theorem test_level_stages :
    newLevelStage station (some 2) 2012 = 2 ∧ newLevelStage station (some 2) 2600 = 3 ∧
      newLevelStage station (some 4) 3100 = 4 ∧ newLevelStage station (some 4) 3099 = 3 ∧
      newLevelStage station none 1550 = 1 := by decide

/-- A filter at rest in `v`, which its owner has received. -/
def settled {α : Type} (v : α) : Machine.Filter α := ⟨some v, some v, 0, some v, []⟩

/-- A filter out of UNKNOWN whose change to `v` waits for its owner. -/
def dueTo {α : Type} (v : α) : Machine.Filter α := ⟨some v, some v, 0, none, [v]⟩

/-- A filter whose change from `u` to `v` waits for its owner. -/
def dueFrom {α : Type} (u v : α) : Machine.Filter α := ⟨some v, some v, 0, some u, [v]⟩

/-- A station of these settings in normal operation, its number 3, ON-LINE, its low float WET, its pumps
and channels fitted. -/
def base : State :=
  { State.reset with
    now := 5000000000
    mode := .operating
    startup := { State.reset.startup with
      imageStatus := some .valid
      oscillatorUntil := none
      number := 3
      strapsRead := true
      activeImage := List.replicate 256 0x55
      settings := station }
    inputs := { Inputs.reset with
      lowFloat := settled .wet
      dayNight := settled .day }
    meas := { Meas.reset with sampleFrom := some 4999980000 }
    pumps := ⟨⟨Pump.reset .off, Pump.reset .off, Pump.reset .disabled, Pump.reset .disabled⟩,
      [0, 1, 2, 3]⟩
    gates := ⟨⟨Gate.reset .opened, Gate.reset .opened⟩, none⟩
    line := { State.reset.line with state := .onLine }
    lights := ⟨⟨200, 140, 140, 0, 0, 0, 0, 0⟩, some 0, none, none, 3, 104⟩
    signs := ⟨0, 0, some 5002000000, true, some 5000500000,
      ⟨true, true, false, false, false, false, false, false⟩⟩
    supply := { Supply.reset with load := 104, headroom := 4896, mode := .peer } }

/-- R109: the part of the lighting in the worked load, and the whole with two pumps running. -/
theorem test_committed_load :
    lightingLoad station ⟨200, 140, 140, 0, 0, 0, 0, 0⟩ = 104 ∧
      committedLoad { base with pumps := { base.pumps with
        pump := ⟨Pump.reset .running, Pump.reset .running, Pump.reset .off, Pump.reset .off⟩ } } =
        1004 := by decide

/-- R111: a station whose supply-mode input is UNKNOWN works to the lesser budget. -/
theorem test_headroom : headroomOf base = 4896 := by decide

/-- R116: on equal urgency the lower number has precedence. -/
theorem test_precedence :
    precedes ⟨2, 2⟩ 4 ⟨0, 2000, 2, 1⟩ = true ∧ precedes ⟨9, 2⟩ 4 ⟨0, 2000, 2, 1⟩ = false ∧
      precedes ⟨9, 3⟩ 4 ⟨0, 2000, 2, 1⟩ = true := by decide

/-- R76: the quiet intervals of station 3, and 8 n bit times more for a retry (R78). -/
theorem test_quiet_intervals :
    waitBits ⟨.stageCall, 0, 0, 0, none, [], false, false, .plain⟩ 3 = 13 ∧
      waitBits ⟨.shedCall, 0, 0, 1, none, [], false, false, .plain⟩ 3 = 57 ∧
      waitBits ⟨.statusReport, 0, 0, 0, none, [], false, false, .plain⟩ 3 = 56 := by decide

/-- R164: the flash clock's half turns the flashing outputs. -/
theorem test_flash_half :
    ((flashTurns base).signs.output) = ⟨true, false, true, false, false, false, false, false⟩ := by
  decide

/-- The table gives no row bits: no word spells a command. -/
theorem test_no_word_is_a_command : decodeTableWord 16 0xFFFF = none := rfl

/-! ## Ill-formed commands are refused -/

theorem test_ill_formed_image : (Instr.imageReadComplete 0 [0x01]).wellFormed = false := by decide

theorem test_ill_formed_senders :
    (Instr.stageCallReceived 0 0 0 0).wellFormed = false ∧
      (Instr.startIntentReceived 0 15 0 0 0 0 0).wellFormed = false ∧
      (Instr.shedCallReceived 0 0 0 0 0).wellFormed = false ∧
      (Instr.peerStale 0 0).wellFormed = false ∧ (Instr.peerRemoval 0 15).wellFormed = false ∧
      (Instr.reservationExpiry 0 0).wellFormed = false := by decide

theorem test_ill_formed_payloads :
    (Instr.statusReportReceived 0 4 0 [1, 2]).wellFormed = false ∧
      (Instr.stationAnswerReceived 0 4 0 [1, 2, 3]).wellFormed = false ∧
      (Instr.ownNumberFrameReceived 0 8 0 0 [1, 2]).wellFormed = false ∧
      (Instr.configWrite 0 3 0 0 (List.replicate 33 0) false).wellFormed = false := by decide

theorem test_well_formed_report :
    (Instr.statusReportReceived 0 4 0 (List.replicate 12 0)).wellFormed = true := by decide

/-! ## Every obligation's hypotheses are met somewhere: the laws that every step keeps -/

/-- `base` with pump 0 running, a flood gate closing behind its CLOSED barrier, a peer that claims 300, a
reservation, and a frame waiting; and with a command at the front of its queue. -/
def lawful : State :=
  { base with
    stage := { base.stage with localStage := 1, maximum := 1, site := 1 }
    pumps := { base.pumps with
      pump := { base.pumps.pump with
        p0 := { Pump.reset .running with startedAt := some 4000000000, history := [4000000000] } } }
    gates := ⟨⟨Gate.reset .closed,
      { Gate.reset .closing with direction := some .close, drive := some .close, driveFrom := 4999000000 }⟩,
      some 4999000000⟩
    signs := { base.signs with stage := 1 }
    peers := ⟨[⟨5, 4999000000, false, 0, 0, some 1, some 300, false, none⟩],
      [⟨5, 0, 900, 1, 4999000000⟩], []⟩
    line := { base.line with
      queue := [⟨.stageCall, 0, 0, 1, some 0, [3], true, false, .plain⟩]
      placed := 1
      sending := some [0xA6, 2, 0x30, 0, 1, 3]
      sendingFrom := 4999999600 }
    supply := { base.supply with
      load := 582, headroom := 3218, shedOffset := 20, restoreUntil := some 5060000000 }
    lights := { base.lights with duty := ⟨200, 120, 120, 0, 0, 0, 0, 0⟩, load := 92 }
    pending := [.flashClockHalf 500000] }

theorem lawful_steps : ∃ t, step lawful = .next t := ⟨_, rfl⟩

theorem witness_EveryStepKeepsPumpsStoppedWithoutWater : DryRun lawful ∧ ∃ t, step lawful = .next t :=
  ⟨by unfold DryRun; decide, lawful_steps⟩

theorem witness_EveryStepKeepsPumpStartsAndCountsBounded :
    (∃ t, step lawful = .next t) ∧ OneStart lawful ∧ Histories lawful ∧ Troubles lawful :=
  ⟨lawful_steps, by unfold OneStart; decide, by unfold Histories; decide, by unfold Troubles; decide⟩

theorem witness_EveryStepKeepsTheGateLaws :
    (∃ t, step lawful = .next t) ∧ Interlocked lawful ∧ NoOpening lawful ∧ Drives lawful :=
  ⟨lawful_steps, by unfold Interlocked; decide, by unfold NoOpening; decide, by
    unfold Drives
    intro c
    match c with
    | 0 => exact ⟨trivial, by decide, by decide⟩
    | 1 => exact ⟨rfl, by decide, by decide⟩⟩

theorem witness_EveryStepKeepsTheStagesInOrder : Stages lawful ∧ ∃ t, step lawful = .next t :=
  ⟨by unfold Stages; decide, lawful_steps⟩

theorem witness_EveryStepKeepsTheQueueAndTheOffsetInRange :
    (∃ t, step lawful = .next t) ∧ Queue lawful ∧ OneOnLine lawful ∧ PlacedInOrder lawful ∧
      Offset lawful :=
  ⟨lawful_steps, by unfold Queue; decide, by unfold OneOnLine; decide,
    by unfold PlacedInOrder; decide, by unfold Offset; decide⟩

theorem witness_EveryStepKeepsTheLineSilentOffLine : Silent lawful ∧ ∃ t, step lawful = .next t :=
  ⟨by unfold Silent; decide, lawful_steps⟩

theorem witness_EveryStepKeepsTheLoadCommitted : Load lawful ∧ ∃ t, step lawful = .next t :=
  ⟨by unfold Load; decide, lawful_steps⟩

theorem witness_EveryStepKeepsTheHeadroomCurrent :
    Peers lawful ∧ Headroom lawful ∧ ∃ t, step lawful = .next t :=
  ⟨by unfold Peers; decide, by unfold Headroom; decide, lawful_steps⟩

theorem witness_EveryStepKeepsTheLightsApplied : Lighting lawful ∧ ∃ t, step lawful = .next t :=
  ⟨by unfold Lighting; decide, lawful_steps⟩

theorem witness_EveryStepKeepsTheSignsOnTheirScene : Safety.Signs lawful ∧ ∃ t, step lawful = .next t :=
  ⟨by unfold Safety.Signs; intro _; exact ⟨rfl, rfl⟩, lawful_steps⟩

theorem witness_EveryStepKeepsThePeerViewWellFormed : Peers lawful ∧ ∃ t, step lawful = .next t :=
  ⟨by unfold Peers; decide, lawful_steps⟩

/-! ## The hypotheses of the other obligations -/

/-- A full average of one code. -/
def steady (code : Nat) : Loop := ⟨.normal, 0, 0, 0, List.replicate 8 code⟩

theorem witness_LoopLevelIsTheFloorOfItsClampedMean :
    base.mode = .operating ∧ ∀ c ∈ [640, 1920, 3200],
      loopValid base (steady c) = true ∧ loopMean (steady c) = some c := by decide

/-- `base` in the mode given. -/
def inMode (m : Mode) : State := { base with mode := m }

theorem witness_ScanEndCountsJudgesAndSamples :
    base.mode = .operating ∧ (inMode .configFallback).mode = .configFallback ∧
      base.meas.sampleFrom = some 4999980000 ∧ 4999980000 + 20000 ≤ base.now + 0 := by decide

/-- `base` with its measurement changed. -/
def measured (f : Meas → Meas) : State := { base with meas := f base.meas }

/-- The pins with every switch open, every float DRY and every selector at OFF. -/
def floating : Pins where
  lowFloat := .dry
  highFloat := .dry
  probe := .dry
  selectorAuto := ⟨false, false, false, false⟩
  selectorHand := ⟨false, false, false, false⟩
  feedback := ⟨.opened, .opened, .opened, .opened⟩
  gate := ⟨⟨.inactive, .inactive, .inactive⟩, ⟨.inactive, .inactive, .inactive⟩⟩
  holdKey := .inactive
  forceCloseKey := .inactive
  reopenKey := .inactive
  panelResetKey := .inactive
  dayNight := .day
  supplyMode := .mains

/-- A scan of these codes. -/
def scanOf (reference code : Code) : Scan := ⟨code, code, ⟨0, 0, 0, 0⟩, 1000, reference⟩

theorem witness_ConverterAndLoopsFollowTheirRuns :
    (let s := measured fun m => { m with badRun := 2 };
      s.mode = .operating ∧ s.meas.faulted = false ∧ 2 ≤ s.meas.badRun ∧
        s.meas.sampleFrom = some 4999980000 ∧ 4999980000 + 20000 ≤ s.now + 0 ∧
        (scanOf 1999 0).reference.toNat < 2000 ∧ 2096 < (scanOf 2097 0).reference.toNat) ∧
    (let s := measured fun m => { m with faulted := true, goodRun := 49 };
      s.mode = .operating ∧ s.meas.faulted = true ∧ 49 ≤ s.meas.goodRun ∧
        2000 ≤ (scanOf 2000 0).reference.toNat ∧ (scanOf 2096 0).reference.toNat ≤ 2096) ∧
    (base.settings.sumpFitted = true ∧ base.meas.faulted = false ∧
      2000 ≤ (scanOf 2048 479).reference.toNat ∧ (scanOf 2048 479).reference.toNat ≤ 2096) ∧
    (let s := measured fun m => { m with loopA := ⟨.over, 2, 0, 0, []⟩ };
      (loopAt s.meas .loopA).fault ≠ .opened ∧ 2 ≤ (loopAt s.meas .loopA).lowRun ∧
        loopCode .loopA (scanOf 2048 479) < 480) ∧
    (let s := measured fun m => { m with loopB := ⟨.normal, 0, 2, 0, []⟩ };
      (loopAt s.meas .loopB).fault ≠ .over ∧ 2 ≤ (loopAt s.meas .loopB).highRun ∧
        3520 < loopCode .loopB (scanOf 2048 3521)) ∧
    (let s := measured fun m => { m with loopA := ⟨.opened, 0, 0, 49, []⟩ };
      (loopAt s.meas .loopA).fault ≠ .normal ∧ 49 ≤ (loopAt s.meas .loopA).recovery ∧
        480 ≤ loopCode .loopA (scanOf 2048 480) ∧
        loopCode .loopA (scanOf 2048 3520) ≤ 3520) := by decide

theorem witness_LevelUpdateFormsLevelRateInflowAndStage :
    (let s := measured fun m => { m with levelDue := true, loopA := steady 1920 };
      s.mode = .operating ∧ s.meas.levelDue = true) ∧
    (let s := { inMode .configFallback with meas := { base.meas with levelDue := true } };
      s.mode = .configFallback ∧ s.meas.levelDue = true) := by decide

theorem witness_LevelUpdateRunsDemandPumpControlAndTrim :
    (let s := measured fun m => { m with levelDue := true, loopA := steady 1920 };
      s.meas.levelDue = true ∧ s.mode = .operating) ∧
    (let s := { inMode .configFallback with meas := { base.meas with levelDue := true } };
      s.meas.levelDue = true ∧ s.mode = .configFallback) := by decide

theorem witness_RateTimerFiltersTheRise :
    let s := measured fun m => { m with
      rateValid := true, rateTimer := some 0, level := some 2012, levelPrev := some 1960, rate := 40 };
    s.mode = .operating ∧ s.meas.rateValid = true ∧ s.meas.rateTimer = some 0 ∧
      s.meas.levelDue = false ∧ s.meas.level = some 2012 ∧ s.meas.levelPrev = some 1960 ∧
      -2000 ≤ s.meas.rate ∧ s.meas.rate ≤ 2000 ∧ s.settings.sumpFitted = true := by decide

/-- `base` with its inputs changed. -/
def wired (f : Inputs → Inputs) : State := { base with inputs := f base.inputs }

theorem witness_FloatChangesFeedTheWatchAndAreHandedOn :
    (let s := wired fun i => { i with
        highFloat := dueFrom .dry .wet
        highChatter := ⟨false, List.replicate 7 4999000000, none⟩ };
      s.mode = .operating ∧ (waterFilter s .highFloat).waiting.head? = some .wet) ∧
    (let s := { inMode .clockFallback with inputs := { base.inputs with lowFloat := dueFrom .wet .dry } };
      s.mode = .clockFallback ∧ (waterFilter s .lowFloat).waiting.head? = some .dry) ∧
    (let s := wired fun i => { i with highChatter := ⟨true, [], some 5000000000⟩ };
      (waterChatter s .highFloat).quietUntil = some 5000000000 ∧
        (waterChatter s .highFloat).chatter = true ∧ 5000000000 ≤ s.now + 0) ∧
    (let s := wired fun i => { i with lowChatter := ⟨false, [4990000000], none⟩ };
      (waterChatter s .lowFloat).changes.head? = some 4990000000 ∧
        4990000000 + 10000000 ≤ s.now + 0) := by decide

/-- `base` with station 5 last heard at the moment given, and its reservation. -/
def withPeer (last : Nat) : State := { base with
  peers := ⟨[⟨5, last, false, 0, 0, some 2, some 300, false, none⟩], [⟨5, 0, 900, 2, 4995000000⟩], []⟩ }

theorem witness_SiteStageFollowsTheMaximum :
    LineHears (withPeer 4980000000) ∧ ((5 : Fin 16).val ≠ 0 ∧ (5 : Fin 16).val ≠ 15 ∧
      (5 : Fin 16).val ≠ base.startup.number ∧ (List.replicate 12 (0 : Byte)).length = 12 ∧
      (withPeer 4980000000).mode = .operating ∧
      (peerEntry (withPeer 4980000000) 5).map (·.lastFrame) = some 4980000000 ∧
      4980000000 + 20000000 ≤ (withPeer 4980000000).now + 0) :=
  ⟨⟨.inl rfl, rfl, rfl⟩, by decide⟩

theorem witness_DescentHoldTakesTheSiteStageDownOne :
    let s := { base with stage := { base.stage with
      site := 2, maximum := 1, localStage := 1, hold := some 5000000000 } };
    s.mode = .operating ∧ s.stage.hold = some 5000000000 ∧ 5000000000 ≤ s.now + 0 ∧
      s.stage.maximum < s.stage.site ∧ s.stage.site = 2 := by decide

/-- `base` with the record of pump 0 replaced. -/
def pumped (r : Pump) : State := { base with pumps := { base.pumps with
  pump := base.pumps.pump.set 0 r } }

theorem witness_SelectorsAndFeedbacksMoveTheirPump :
    (let s := wired fun i => { i with selector := i.selector.set 0 (dueTo .hand) };
      s.mode = .operating ∧ (s.inputs.selector.get 0).waiting.head? = some .hand ∧
        (s.pump 0).state ≠ .notFitted) ∧
    (let s := { pumped (Pump.reset .notFitted) with inputs := { base.inputs with
        selector := base.inputs.selector.set 0 (dueTo .off) } };
      (s.inputs.selector.get 0).waiting.head? = some .off ∧ (s.pump 0).state = .notFitted) ∧
    (let s := wired fun i => { i with feedback := i.feedback.set 3 (dueTo .opened) };
      (s.inputs.feedback.get 3).waiting.head? = some .opened) := by decide

/-- Pump 0 in STARTING for 2 s at a scan end of this moment. -/
def starting (settling : Bool) (current : Option Nat) (feedback : Feedback) : State :=
  { pumped { Pump.reset .starting with
      attempt := some 3, attemptFrom := some 4998000000, settling := settling
      openSince := some 4999000000 } with
    meas := { base.meas with lastScan := some 5000000000, current := ⟨current, none, none, none⟩ }
    inputs := { base.inputs with feedback := base.inputs.feedback.set 0 (settled feedback) } }

theorem witness_AttemptsAreCheckedSettledOrFailed :
    (∀ s ∈ [starting false (some 200) .closed, starting false (some 1501) .closed,
        starting false (some 1500) .closed, starting false none .opened],
      s.mode = .operating ∧ (s.pump 0).state = .starting ∧ (s.pump 0).settling = false ∧
        (s.pump 0).attemptFrom = some 4998000000 ∧ s.meas.lastScan = some 5000000000 ∧
        4998000000 + 2000000 ≤ 5000000000) ∧
    (let s := starting true none .opened;
      s.mode = .operating ∧ (s.pump 0).state = .starting ∧ s.meas.lastScan = some 5000000000 ∧
        (s.pump 0).settling = true ∧ OpenForOneSecond s.inputs 0 5000000000 (s.pump 0)) ∧
    (let s := { pumped { Pump.reset .starting with attemptFrom := some 4990000000 } with
        meas := { base.meas with lastScan := some 5000000000 } };
      (s.pump 0).state = .starting ∧ (s.pump 0).attemptFrom = some 4990000000 ∧
        s.meas.lastScan = some 5000000000 ∧
        4990000000 + 2 * (s.settings.settleTime * 1000000) ≤ 5000000000) := by decide

theorem witness_RetryHistoryRunOnAndRestTimersMoveTheirPump :
    (let s := pumped { Pump.reset .retryWait with attempt := some 1, retryUntil := some 5000000000 };
      (s.pump 0).state = .retryWait ∧ (s.pump 0).retryUntil = some 5000000000 ∧
        5000000000 ≤ s.now + 0 ∧ (s.pump 0).history.length < s.settings.startsPerHour ∧
        s.line.window = .closed) ∧
    (let s := pumped { Pump.reset .retryWait with
        retryUntil := some 5000000000, history := List.replicate 6 4000000000 };
      (s.pump 0).state = .retryWait ∧
        ¬ (s.pump 0).history.length < s.settings.startsPerHour) ∧
    (let s := pumped { Pump.reset .retryWait with history := [1400000000] };
      s.mode = .operating ∧ (s.pump 0).history.head? = some 1400000000 ∧
        1400000000 + 3600000000 ≤ s.now + 0 ∧ (s.pump 0).retryUntil = none) ∧
    (let s := pumped { Pump.reset .runOn with runOnUntil := some 5000000000 };
      (s.pump 0).state = .runOn ∧ (s.pump 0).runOnUntil = some 5000000000) ∧
    (let s := pumped { Pump.reset .resting with restUntil := some 5000000000 };
      (s.pump 0).state = .resting ∧ (s.pump 0).restUntil = some 5000000000 ∧
        5000000000 ≤ s.now + 0) := by decide

theorem witness_TripsRestThePumpOrLockItOut :
    ∀ r ∈ [{ Pump.reset .running with
          trouble := 13, overRun := 100, openSince := some 4999000000 },
        { Pump.reset .runOn with
          trouble := 14, overRun := 100, openSince := some 4999000000 }],
      let s := { pumped r with
        meas := { base.meas with lastScan := some 5000000000 }
        inputs := { base.inputs with feedback := base.inputs.feedback.set 0 (settled .opened) } };
      s.mode = .operating ∧ ((s.pump 0).state = .running ∨ (s.pump 0).state = .runOn) ∧
        100 ≤ (s.pump 0).overRun ∧ s.meas.lastScan = some 5000000000 ∧
        OpenForOneSecond s.inputs 0 5000000000 (s.pump 0) := by decide

/-- `base` with the record of channel `c` replaced. -/
def gated (c : Fin 2) (g : Gate) : State := { base with gates := { base.gates with
  channel := base.gates.channel.set c g } }

theorem witness_PanelResetClearsTroubleAndGateFaults :
    let s := { gated 1 (Gate.reset .fault) with
      inputs := { base.inputs with panelResetKey := dueTo .active } };
    s.mode = .operating ∧ s.inputs.panelResetKey.waiting.head? = some .active ∧
      (s.gate 1).state = .fault := by decide

/-- A tool frame can be handed on in `base`, and in configuration fallback. -/
theorem base_toolReady : ToolReady base ∧ ToolReady (inMode .configFallback) :=
  ⟨⟨⟨.inl rfl, rfl, rfl⟩, rfl, .inl rfl⟩, ⟨⟨.inr rfl, rfl, rfl⟩, rfl, .inl rfl⟩⟩

theorem witness_PumpOrdersClearWhatTheyName :
    (ToolReady base ∧ ToolReady (inMode .configFallback)) ∧
    ((3 : Fin 16).val = base.startup.number ∧ 4 ≤ (4 : Byte).toNat ∧
      (0 : Byte).toNat = (0 : Fin 4).val ∧ (base.pump 0).state ≠ .notFitted ∧
      (base.pump 0).lockout = none ∧
      (pumped (Pump.reset .notFitted)).mode = .operating ∧
      ((pumped (Pump.reset .notFitted)).pump 0).state = .notFitted ∧
      ((pumped { Pump.reset .disabled with lockout := some .start }).pump 0).lockout ≠ none ∧
      ((pumped { Pump.reset .lockedOut with lockout := some .trips }).pump 0).state = .lockedOut ∧
      base.line.queue.length ≤ 2) := ⟨base_toolReady, by decide⟩

theorem witness_GateOrdersClearAndReopen :
    (ToolReady base ∧ ToolReady (inMode .configFallback)) ∧
    ((0 : Fin 16).val = 0 ∧ 2 ≤ (2 : Byte).toNat ∧ (1 : Byte).toNat = (1 : Fin 2).val ∧
      gateKind base 0 ≠ .floodgate ∧ gateKind base 1 = .floodgate ∧
      gateKind { base with startup := { base.startup with settings := Settings.absent } } 0 = .none ∧
      (base.gate 1).state ≠ .fault ∧ ((gated 1 (Gate.reset .fault)).gate 1).state = .fault ∧
      ((gated 1 (Gate.reset .closed)).gate 1).state = .closed ∧ base.stage.site ≤ 1 ∧
      base.line.queue.length ≤ 2) := ⟨base_toolReady, by decide⟩

theorem witness_CountersRestartAndUnknownRequestsAreAnswered :
    ToolReady base ∧
    ((3 : Fin 16).val = base.startup.number ∧
      ((gated 0 (Gate.reset .closing)).gate 0).state = .closing ∧
      (∀ c, (base.gate c).state ≠ .closing ∧ (base.gate c).state ≠ .opening) ∧
      base.tool.restart = none ∧
      ToolReady { base with tool := { base.tool with restart := some ⟨true, false⟩ } } ∧
      (0 : Byte).toNat = 0 ∧ 7 < (8 : Byte).toNat ∧ 8 < (9 : Byte).toNat) :=
  ⟨base_toolReady.1, rfl, rfl, by decide, rfl, ⟨⟨.inl rfl, rfl, rfl⟩, rfl, .inl rfl⟩, rfl, by decide,
    by decide⟩

theorem witness_QueriesAreAnsweredWithTheirRecords :
    ToolReady base ∧ ((3 : Fin 16).val = base.startup.number ∧ 4 ≤ (4 : Byte).toNat ∧
      (3 : Byte).toNat = (3 : Fin 4).val ∧ 2 ≤ (2 : Byte).toNat ∧
      (1 : Byte).toNat = (1 : Fin 2).val) := ⟨base_toolReady.1, by decide⟩

/-- `base` with a configuration write in flight. -/
def writing (phase : WritePhase) : State := { base with
  tool := { base.tool with write := some ⟨32, [7], 9, 4999980000, phase⟩ } }

theorem witness_ConfigurationWriteRunsOnTheMemoryPort :
    ToolReady base ∧
    ((0 : Fin 16).val = 0 ∧ [(1 : Byte)].length ≤ 32 ∧ (base.mode = .operating) ∧
      (writing .polling).tool.write = some ⟨32, [7], 9, 4999980000, .polling⟩ ∧
      (writing .polling).now + 0 ≤ 4999980000 + 20000 ∧
      4999980000 + 20000 ≤ (writing .polling).now + 0 ∧
      (writing .readBack).tool.write = some ⟨32, [7], 9, 4999980000, .readBack⟩) :=
  ⟨base_toolReady.1, by decide⟩

/-- `base` with its line controller changed. -/
def lined (f : Line → Line) : State := { base with line := f base.line }

/-- The ten levels of a byte: a low start bit, the data bits, a stop bit. -/
def levelsOf (start : Bool) (b : Byte) (stop : Bool) : BitVec 10 :=
  BitVec.ofNat 10 ((if start then 1 else 0) + 2 * b.toNat + if stop then 512 else 0)

theorem witness_ReceiverAssemblesByteByByte :
    (LineHears base ∧ LineHears (lined fun l => { l with receiver := .assembling [2, 0x30] false })) ∧
    ((levelsOf true 0xA6 true).getLsbD 0 = true ∧ (levelsOf false 0xA6 true).getLsbD 0 = false) ∧
    (let s := lined fun l => { l with receiver := .assembling [2] true };
      partialSpoilt s.line.receiver = true) ∧
    (let s := lined fun l => { l with receiver := .assembling [2] false, idleFrom := 4999999935 };
      s.line.receiver ≠ .hunting ∧ 64 < 65 ∧ s.line.idleFrom + 64 < s.now + 0) :=
  ⟨⟨⟨.inl rfl, rfl, rfl⟩, ⟨.inl rfl, rfl, rfl⟩⟩, by decide⟩

/-- `base` with a complete STAGE CALL from station 5 to everyone in its receiver, good or not. -/
def holding (good : Bool) : State := lined fun l => { l with
  receiver := .assembling (if good then (wireFrame 3 5 0 7 [2]).drop 1
    else [3, 0x50, 7, 1, 2, 0, 0]) false }

theorem witness_CompleteFramesAreJudgedAndCounted :
    (holding true).mode = .operating ∧ (holding true).line.sending = none ∧
      frameHeld (holding true).line.receiver = some ((wireFrame 3 5 0 7 [2]).drop 1) ∧
      frameHeld (holding false).line.receiver = some [3, 0x50, 7, 1, 2, 0, 0] := by decide +kernel

/-- A waiting frame of the kind given. -/
def waitingEntry (kind : FrameKind) (attempts : Nat) (onLine withdraw : Bool) : Entry :=
  ⟨kind, 0, 0, attempts, if attempts = 0 then none else some 0, [1], onLine, withdraw, .plain⟩

theorem witness_AttemptBeginsAfterTheQuietInterval :
    let e := waitingEntry .stageCall 0 false false
    let s := lined fun l => { l with queue := [e], idleFrom := 4999999792 };
    16 * waitBits e s.startup.number ≤ 208 ∧
    s.mode = .operating ∧ s.line.state = .onLine ∧ s.line.window = .closed ∧
      s.line.sending = none ∧ frameHeld s.line.receiver = none ∧ headEntry s = some e ∧
      s.line.idleFrom + 16 * waitBits e s.startup.number ≤ s.now + 0 := by decide

/-- `base` with an attempt of the entry on the line, which began so many bit times ago. -/
def onLineWith (bits : Nat) (e : Entry) : State :=
  { lined fun l => { l with
      queue := [e], placed := 1
      sending := some [0xA6, 1, 2, 3], sendingFrom := 5000000000 - 16 * bits } with
    supply := { base.supply with intent := .queued ⟨0, 900, 2, 1⟩ [⟨2, 2⟩] } }

theorem witness_FramesGoOutBitByBitUnderDen :
    (base.line.sending = none) ∧
    (let s := onLineWith 9 (waitingEntry .stageCall 1 true false);
      s.mode = .operating ∧ s.line.sending = some [0xA6, 1, 2, 3] ∧
        ((s.line.report.toList ++ s.line.queue).find? (·.onLine)).isSome = true ∧
        levelOfBit [0xA6, 1, 2, 3] ((s.now + 0 - s.line.sendingFrom) / 16) = some true) ∧
    (let s := onLineWith 10 (waitingEntry .stageCall 1 true false);
      s.line.state = .onLine ∧
        levelOfBit [0xA6, 1, 2, 3] ((s.now + 0 - s.line.sendingFrom) / 16) = some false) ∧
    (let s := onLineWith 40 (waitingEntry .stageCall 1 true false);
      s.line.sendingFrom + 160 * 4 ≤ s.now + 0) := by decide

theorem witness_AttemptsEndInCollisionOrSent :
    ∀ e ∈ [waitingEntry .startIntent 1 true true, waitingEntry .startIntent 7 true false,
        waitingEntry .startIntent 8 true false, waitingEntry .stationAnswer 1 true false],
      (onLineWith 11 e).mode = .operating ∧
        (onLineWith 11 e).line.sending = some [0xA6, 1, 2, 3] ∧
        ((onLineWith 11 e).line.report.toList ++ (onLineWith 11 e).line.queue).find? (·.onLine) =
          some e ∧
        levelOfBit [0xA6, 1, 2, 3] (((onLineWith 11 e).now + 0 -
          (onLineWith 11 e).line.sendingFrom) / 16) = some true ∧
        (onLineWith 40 e).line.sendingFrom + 160 * 4 ≤ (onLineWith 40 e).now + 0 := by decide

theorem witness_LineFaultAndProbeMoveTheLineState :
    (base.line.state = .onLine ∧ OneOnLine base ∧ base.mode = .operating) ∧
    (let s := onLineWith 10 (waitingEntry .startIntent 1 true true);
      s.line.state = .onLine ∧ OneOnLine s ∧ s.line.sending = some [0xA6, 1, 2, 3] ∧
        (s.line.report.toList ++ s.line.queue).find? (·.onLine) ≠ none ∧
        levelOfBit [0xA6, 1, 2, 3] ((s.now + 0 - s.line.sendingFrom) / 16) = some false) ∧
    (let s := lined fun l => { l with state := .lineFault, probeUntil := some 5000000000 };
      s.mode = .operating ∧ OneOnLine s ∧ s.line.state = .lineFault ∧
        s.line.probeUntil = some 5000000000 ∧ 5000000000 ≤ s.now + 0) := by
  unfold OneOnLine
  exact ⟨by decide, by decide, by decide⟩

theorem witness_ReportsFallDueAndBecomeMarkers :
    (let s := lined fun l => { l with periodicAt := some 5000000000 };
      s.line.periodicAt = some 5000000000 ∧ 5000000000 ≤ s.now + 0) ∧
    (let s := lined fun l => { l with changePending := true, lastReportStart := some 4999800000 };
      s.mode = .operating ∧ s.line.changePending = true ∧ s.line.report = none ∧
        4999800000 + 200000 ≤ s.now + 0 ∧ s.line.state = .onLine ∧ s.line.window = .closed) := by
  decide

theorem witness_LineStatesFollowTheirTimes :
    (let s := lined fun l => { l with state := .listen, window := .opened 5000000000 };
      s.line.window = .opened 5000000000 ∧ 5000000000 ≤ s.now + 0 ∧ s.line.state = .listen) ∧
    (let s := lined fun l => { l with islandFrom := some 4980000000 };
      s.line.state = .onLine ∧ s.line.island = false ∧ s.line.islandFrom = some 4980000000 ∧
        4980000000 + 20000000 ≤ s.now + 0) ∧
    (let s := lined fun l => { l with state := .clash, clashUntil := some 5000000000 };
      s.mode = .operating ∧ s.line.state = .clash ∧ s.line.clashUntil = some 5000000000) := by decide

theorem witness_PeerFramesBringTheirContents :
    Peers base ∧ LineHears base ∧ ((5 : Fin 16).val ≠ 0 ∧ (5 : Fin 16).val ≠ 15 ∧
      (5 : Fin 16).val ≠ base.startup.number ∧ (List.replicate 12 (0 : Byte)).length = 12 ∧
      4 ≤ (List.replicate 4 (0 : Byte)).length ∧ (List.replicate 40 (0 : Byte)).length ≤ 40 ∧
      base.supply.mode = budgetModeOf base ∧ base.line.island = false ∧ canShed base = true) :=
  ⟨by unfold Peers; decide, ⟨.inl rfl, rfl, rfl⟩, by decide⟩

theorem witness_OwnNumberFramesBringTheClash :
    LineHears base ∧ (strapFault base = false ∧ 1 ≤ base.startup.number ∧
      base.startup.number ≤ 14 ∧ (3 : Byte).toNat ∈ [1, 2, 3, 4, 10] ∧
      lengthAllowed (3 : Byte).toNat [(0 : Byte)].length = true ∧ base.line.state ≠ .clash ∧
      base.peers.ownNumber = [] ∧
      (let s := { base with peers := { base.peers with ownNumber := [4980000000] } };
      s.mode = .operating ∧ s.peers.ownNumber ≠ [] ∧
        s.peers.ownNumber.head? = some 4980000000 ∧ 4980000000 + 20000000 ≤ s.now + 0) ∧
      (lined fun l => { l with state := .clash }).line.state = .clash) :=
  ⟨⟨.inl rfl, rfl, rfl⟩, by decide⟩

theorem witness_PeersAndReservationsAge :
    (base.mode = .operating) ∧
    (peerEntry (withPeer 4994000000) 5).map (·.lastFrame) = some 4994000000 ∧
    4994000000 + 6000000 ≤ base.now + 0 ∧
    (peerEntry (withPeer 4980000000) 5).map (·.lastFrame) = some 4980000000 ∧
    4980000000 + 20000000 ≤ base.now + 0 ∧
    (reservationOf (withPeer 0) 5).map (·.arrival) = some 4995000000 ∧
    4995000000 + base.settings.spacing * 1000000 ≤ base.now + 0 := by decide

/-- `base` with pump 0 in WAITING, and its supply block changed. -/
def bidding (f : Supply → Supply) : State :=
  { pumped { Pump.reset .waiting with attempt := some 1 } with supply := f base.supply }

theorem witness_SupplyModeAndSpacingReachTheHeadroomAndTheIntent :
    (let s := wired fun i => { i with supplyMode := dueTo .generator };
      s.mode = .operating ∧ s.inputs.supplyMode.waiting.head? = some .generator) ∧
    (let s := bidding fun x => { x with lastIntent := some 4995000000 };
      s.mode = .operating ∧ Headroom s ∧ s.supply.intent = .none ∧
        s.supply.lastIntent = some 4995000000 ∧
        4995000000 + s.settings.spacing * 1000000 ≤ s.now + 0 ∧
        candidate s = some 0 ∧ s.supply.formWaits = false ∧ s.supply.mode = .peer ∧
        s.peers.reservations = [] ∧ (s.settings.pIn : Int) ≤ s.supply.headroom ∧
        s.line.queue.length < 5) ∧
    (let s := { bidding fun x => { x with lastIntent := some 4995000000 } with
        line := { base.line with
          queue := waitingEntry .stationAnswer 1 false false ::
            List.replicate 4 (waitingEntry .stageCall 0 false false) } };
      s.mode = .operating ∧ Headroom s ∧ 5 ≤ s.line.queue.length ∧ candidate s = some 0 ∧
        ∀ e ∈ s.line.queue, e.kind = .stationAnswer → e.sequence ≠ none) ∧
    (let x : Entry := { waitingEntry .stationAnswer 0 false false with order := 1 };
      let later : Entry := { waitingEntry .stationAnswer 0 false false with order := 2 };
      ∀ q ∈ [(List.replicate 2 (waitingEntry .stageCall 0 false false),
            [waitingEntry .stageCall 0 false false, later]),
          ([later, waitingEntry .stageCall 0 false false],
            List.replicate 2 (waitingEntry .stageCall 0 false false))],
      let s := { bidding fun y => { y with lastIntent := some 4995000000 } with
        line := { base.line with queue := q.1 ++ x :: q.2 } };
      s.mode = .operating ∧ Headroom s ∧ 5 ≤ s.line.queue.length ∧ candidate s = some 0 ∧
        x.kind = .stationAnswer ∧ x.sequence = none ∧ later ∈ q.1 ++ q.2 ∧
        (∀ y ∈ q.1 ++ q.2, y.order ≠ x.order ∧
          (y.kind = .stationAnswer → y.sequence = none → x.order < y.order))) := by
  unfold Headroom
  decide

theorem witness_StartGrantsNeedTheirTimesAndTheHeadroom :
    (let s := bidding fun x => { x with intent := .window ⟨0, 900, 2, 1⟩ 5000000000 };
      s.mode = .operating ∧ (s.pump 0).state = .waiting ∧ lowWet s = true ∧
        (∀ q, (s.pump q).state ≠ .starting) ∧ (s.settings.pIn : Int) ≤ s.supply.headroom ∧
        (s.pump 0).history.length < s.settings.startsPerHour) ∧
    (let s := bidding fun x => { x with
        mode := .island, entryWait := some 5000000000, lastStart := some 4995000000 };
      s.supply.entryWait = some 5000000000 ∧ s.supply.mode = .island ∧ candidate s = some 0 ∧
        s.supply.lastStart = some 4995000000 ∧
        4995000000 + s.settings.spacing * 1000000 ≤ s.now + 0) ∧
    (let s := bidding fun x => { x with mode := .island, lastStart := some 4995000000 };
      s.supply.entryWait = none ∧ candidate s = some 0) := by decide

theorem witness_ShedTimersMoveTheOffsetByTwenty :
    (let s := bidding fun x => { x with
        headroom := -1, shortfallUntil := some 5000000000, shedCallUntil := some 5000000000 };
      s.mode = .operating ∧ s.supply.shortfallUntil = some 5000000000 ∧ s.supply.mode ≠ .none ∧
        s.supply.shedCallUntil = some 5000000000 ∧ 5000000000 ≤ s.now + 0 ∧ candidate s ≠ none ∧
        s.supply.headroom < s.settings.pIn ∧ s.line.state = .onLine ∧ s.line.queue.length ≤ 3) ∧
    (let s := bidding fun x => { x with shedOffset := 20, restoreUntil := some 5000000000 };
      s.supply.restoreUntil = some 5000000000 ∧ 0 < s.supply.shedOffset) := by decide

/-- `base` with the inputs of channel 0 replaced and the record of channel 0. -/
def limited (g : Gate) (i : GateInputs) : State := { gated 0 g with
  inputs := { base.inputs with gate := base.inputs.gate.set 0 i } }

theorem witness_LimitsAndObstructionsMoveTheirChannel :
    (let s := limited { Gate.reset .closing with direction := some .close }
        { GateInputs.reset with closedLimit := dueTo .active, obstruction := dueTo .active };
      s.mode = .operating ∧ (limitFilter s 0 .closedLimit).waiting.head? = some .active ∧
        (s.inputs.gate.get 0).obstruction.waiting.head? = some .active) ∧
    (let s := limited (Gate.reset .closed)
        { GateInputs.reset with closedLimit := dueFrom .active .inactive };
      (limitFilter s 0 .closedLimit).waiting.head? = some .inactive ∧ (s.gate 0).driftAt = none) ∧
    (let s := { limited (Gate.reset .unknown) { GateInputs.reset with openLimit := dueTo .active } with
        mode := .clockFallback };
      s.mode = .clockFallback ∧ (limitFilter s 0 .openLimit).waiting.head? = some .active) := by
  decide

theorem witness_KeysHoldReleaseForceAndReopen :
    (let s := wired fun i => { i with
        holdKey := dueTo .active, forceCloseKey := dueTo .active, reopenKey := dueTo .active };
      s.mode = .operating ∧ s.inputs.holdKey.waiting.head? = some .active ∧
        s.inputs.forceCloseKey.waiting.head? = some .active ∧
        s.inputs.reopenKey.waiting.head? = some .active ∧ s.stage.site ≤ 1) ∧
    (let s := wired fun i => { i with holdKey := dueFrom .active .inactive };
      s.inputs.holdKey.waiting.head? = some .inactive) := by decide

theorem witness_GateTimesDriveResumeOpenAndFail :
    (let s := gated 0 { Gate.reset .closing with openDropped := some 4999500000 };
      s.mode = .operating ∧ (s.gate 0).state = .closing ∧ (s.gate 0).drive = none ∧
        4999500000 + 500000 ≤ s.now + 0) ∧
    (let s := gated 1 { Gate.reset .opening with closeDropped := some 4999500000 };
      (s.gate 1).state = .opening ∧ (s.gate 1).drive = none) ∧
    (let s := gated 0 { Gate.reset .closing with
        drive := some .close, used := 5000000, driveFrom := 4985000000 };
      (s.gate 0).drive ≠ none ∧ (s.settings.gate.get 0).travelLimit * 1000000 ≤
        (s.gate 0).used + (s.now + 0 - (s.gate 0).driveFrom)) ∧
    (let s := limited { Gate.reset .suspended with
        clearSince := some 4995000000, driftAt := some 4400000000 }
        { GateInputs.reset with obstruction := settled .inactive };
      laneClear s 0 = true ∧ (s.gate 0).clearSince = some 4995000000 ∧ 4995000000 + 3000000 ≤ s.now + 0 ∧
        4995000000 + 5000000 ≤ s.now + 0 ∧ (s.gate 0).driftAt = some 4400000000 ∧
        4400000000 + 600000000 ≤ s.now + 0) ∧
    (let s := { base with gates := { base.gates with lowStageAt := some 4940000000 } };
      s.gates.lowStageAt = some 4940000000 ∧ 4940000000 + 60000000 ≤ s.now + 0) := by decide

theorem witness_DayNightAndEntranceStepSetTheDuties :
    (let s := wired fun i => { i with dayNight := dueFrom .day .night };
      s.mode = .operating ∧ s.inputs.dayNight.waiting.head? = some .night) ∧
    (let s := { measured fun m => { m with lastScan := some 5000000000 } with
        lights := { base.lights with upRun := some 4970000000 } };
      s.lights.step = some 0 ∧ s.meas.lastScan = some 5000000000 ∧
        s.lights.upRun = some 4970000000 ∧ 4970000000 + 30000000 ≤ 5000000000) := by decide

theorem witness_SignsMoveAtTheirDwellAndFlashInHalves :
    base.mode = .operating ∧ base.signs.dwellUntil = some 5002000000 ∧
      5002000000 ≤ base.now + 2000000 ∧ base.signs.flashAt = some 5000500000 ∧
      5000500000 ≤ base.now + 500000 ∧
      ((base.settings.program.getD base.signs.stage [])[0]?.bind
        fun n => base.settings.scene[n]?) ≠ none := by decide

theorem witness_EveryResetLeavesTheSameState :
    { inMode .clockFallback with
      startup := { base.startup with clockMissed := some 4999980000 } }.startup.clockMissed =
        some 4999980000 ∧
    (inMode .clockFallback).mode = .clockFallback ∧ (inMode .held).mode = .held ∧
      { base with tool := { base.tool with restart := some ⟨false, false⟩ } }.tool.restart =
        some ⟨false, false⟩ := by decide

theorem witness_StartUpReadsStrapsJudgesTheImageAndListens :
    (State.reset.mode = .oscillator ∧ State.reset.startup.oscillatorUntil = some 20000 ∧
      20000 ≤ State.reset.now + 20000) ∧
    ((inMode .image).mode = .image ∧ (List.replicate 256 (0x00 : Byte)).length = 256) ∧
    (∀ image ∈ [List.replicate 256 (0x55 : Byte)], image.length = 256 ∧
      image ≠ List.replicate 256 0x00 ∧ image ≠ List.replicate 256 0xFF ∧
      image.take 3 ≠ [0xC3, 0x4D, 0x01]) := by decide +kernel

/-- The check over a run of bytes, from the check of what comes before (R71). -/
theorem crcFrom_step {c d : BitVec 16} {a rest : List Byte} (h : crcFrom c a = d) :
    crcFrom c (a ++ rest) = crcFrom d rest := by
  induction a generalizing c with
  | nil => exact h ▸ rfl
  | cons x a ih => exact ih h

/-- The head of an image up to the thresholds: no sump, no pump, every threshold 1 mm above the last. -/
def imageHead : List Byte :=
  [0xC3, 0x4D, 1, 0, 0, 0x01, 0xF4, 0, 1, 0, 50, 0, 0, 0, 1, 0, 2, 0, 3, 0, 4]

/-- An image whose every field lies in its range. -/
def plainImageBody : List Byte :=
  imageHead ++ ([0, 20, 0, 1, 0, 10, 0, 10, 2, 0, 0, 0, 10, 4, 1, 40, 0, 0, 0, 0, 0, 0, 2,
    0, 0, 0, 0, 0, 0, 0] ++ ([0, 30, 0, 2, 0, 0, 0, 2, 0, 0] ++ (List.replicate 38 0 ++
    (List.replicate 38 0 ++ ((List.replicate 8 [0, 0, 1]).flatten ++ ((List.replicate 8 [0, 0,
    1]).flatten ++ ((List.replicate 5 [1, 0, 0, 0, 0, 0, 0, 0, 0]).flatten ++ (List.replicate
    24 0))))))))

/-- An image whose every field lies in its range, with its check. -/
def plainImage : List Byte := plainImageBody ++ [0xBA, 0xB9]

theorem plainImage_check : crc16 plainImageBody = 0xBAB9#16 :=
  (crcFrom_step (d := 0x287E#16) (by decide +kernel)).trans <|
    (crcFrom_step (d := 0x1965#16) (by decide +kernel)).trans <|
    (crcFrom_step (d := 0x107B#16) (by decide +kernel)).trans <|
    (crcFrom_step (d := 0x4CC3#16) (by decide +kernel)).trans <|
    (crcFrom_step (d := 0x7415#16) (by decide +kernel)).trans <|
    (crcFrom_step (d := 0x33D5#16) (by decide +kernel)).trans <|
    (crcFrom_step (d := 0xF5F8#16) (by decide +kernel)).trans <|
    (crcFrom_step (d := 0x17F9#16) (by decide +kernel)).trans <|
    by decide +kernel

/-- An image with its thresholds in order and fields below their ranges. -/
def lowImageBody : List Byte :=
  imageHead ++ (List.replicate 40 0 ++ (List.replicate 40 0 ++ (List.replicate 40 0 ++
    (List.replicate 40 0 ++ (List.replicate 40 0 ++ (List.replicate 33 0))))))

/-- An image with its thresholds in order and fields below their ranges, with its check. -/
def lowImage : List Byte := lowImageBody ++ [0x40, 0xC4]

theorem lowImage_check : crc16 lowImageBody = 0x40C4#16 :=
  (crcFrom_step (d := 0x287E#16) (by decide +kernel)).trans <|
    (crcFrom_step (d := 0x04D9#16) (by decide +kernel)).trans <|
    (crcFrom_step (d := 0x8F31#16) (by decide +kernel)).trans <|
    (crcFrom_step (d := 0x0905#16) (by decide +kernel)).trans <|
    (crcFrom_step (d := 0x5761#16) (by decide +kernel)).trans <|
    (crcFrom_step (d := 0x044F#16) (by decide +kernel)).trans <|
    by decide +kernel

/-- An image of nothing but zeros after its marker and version. -/
def flatImageBody : List Byte :=
  [0xC3, 0x4D, 1, 0, 0] ++ (List.replicate 40 0 ++ (List.replicate 40 0 ++ (List.replicate
    40 0 ++ (List.replicate 40 0 ++ (List.replicate 40 0 ++ (List.replicate 40 0 ++
    (List.replicate 9 0)))))))

/-- An image of nothing but zeros after its marker and version, with its check. -/
def flatImage : List Byte := flatImageBody ++ [0x0B, 0x50]

theorem flatImage_check : crc16 flatImageBody = 0x0B50#16 :=
  (crcFrom_step (d := 0xAC4C#16) (by decide +kernel)).trans <|
    (crcFrom_step (d := 0x4028#16) (by decide +kernel)).trans <|
    (crcFrom_step (d := 0x9E8D#16) (by decide +kernel)).trans <|
    (crcFrom_step (d := 0xFB82#16) (by decide +kernel)).trans <|
    (crcFrom_step (d := 0x72D6#16) (by decide +kernel)).trans <|
    (crcFrom_step (d := 0x2E26#16) (by decide +kernel)).trans <|
    (crcFrom_step (d := 0x1779#16) (by decide +kernel)).trans <|
    by decide +kernel

/-- An image with the marker, the version and the check right is judged by its thresholds and fields. -/
theorem judged {body : List Byte} {a b : Byte} {check : BitVec 16} (h : crc16 body = check)
    (n : body.length = 254)
    (marked : imageAbsent (body ++ [a, b]) = false ∧ byteAt (body ++ [a, b]) 0 = 0xC3 ∧
      byteAt (body ++ [a, b]) 1 = 0x4D ∧ byteAt (body ++ [a, b]) 2 = 1 ∧
      check.toNat = wordAt (body ++ [a, b]) 254) :
    judgeImage (body ++ [a, b]) =
      if !thresholdsOrdered (settingsOf (body ++ [a, b])) then .invalid
      else if imageInRange (body ++ [a, b]) then .valid else .clamped := by
  simp [judgeImage, imageMarked, List.take_left' n, h, marked]

theorem witness_TheImageGivesTheSettings :
    (inMode .image).mode = .image ∧
    (plainImage.length = 256 ∧ judgeImage plainImage = .valid) ∧
    (lowImage.length = 256 ∧ judgeImage lowImage = .clamped) ∧
    (flatImage.length = 256 ∧ judgeImage flatImage = .invalid ∧
      flatImage.take 3 = [0xC3, 0x4D, 0x01] ∧ (crc16 (flatImage.take 254)).toNat =
        (flatImage.getD 254 0).toNat * 256 + (flatImage.getD 255 0).toNat) ∧
    judgeImage (List.replicate 256 0xFF) = .absent := by
  refine ⟨rfl, ⟨by decide +kernel, (judged plainImage_check (by decide +kernel)
      (by decide +kernel)).trans (by decide +kernel)⟩,
    ⟨by decide +kernel, (judged lowImage_check (by decide +kernel)
      (by decide +kernel)).trans (by decide +kernel)⟩,
    ⟨by decide +kernel, (judged flatImage_check (by decide +kernel)
      (by decide +kernel)).trans (by decide +kernel), by decide +kernel, ?_⟩, by decide +kernel⟩
  rw [flatImage, List.take_left' (by decide +kernel), flatImage_check]
  decide +kernel

theorem witness_ClockFallbackRunsOnTheFloats :
    (inMode .image).mode = .image ∧ base.mode = .operating ∧
    State.reset.mode = .oscillator ∧
    (let s := { inMode .configFallback with
        fallback := ⟨some 4979000000, ⟨true, true, true, false⟩⟩ };
      s.fallback.run = some 4979000000 ∧
        4979000000 + s.startup.number * 2000000 + (3 : Fin 4).val * 5000000 ≤ s.now + 0) ∧
    (inMode .clockFallback).mode = .clockFallback ∧
    (inMode .clockFallback).meas.sampleFrom = some 4999980000 ∧
    4999980000 + 20000 ≤ (inMode .clockFallback).now + 0 := by decide

theorem witness_RelayAndFaultFlagsFollowTheFaults :
    (∀ p, (State.reset.pump p).state = .notFitted) ∧ ∃ p, (base.pump p).state ≠ .notFitted := by decide

/-! ## Small steps, with what the rules give -/

/-- The state a command leaves. -/
def after (i : Instr) (s : State) : State :=
  match exec i s with
  | .next t => t
  | _ => s

/-- R97, R130, R129, R109, R149: a STAGE CALL of stage 3 begins the barrier's closing, with its load and
the evacuation level, and the flood gate waits for stage 4. -/
theorem test_stage_call_closes_the_barrier :
    let t := after (.stageCallReceived 0 5 1 3) base;
    t.stage.site = 3 ∧ (t.gate 0).state = .closing ∧ (t.gate 0).drive = some .close ∧
      (t.gate 1).state = .opened ∧ t.lights.duty.e1 = 150 ∧ t.supply.load = 20 + 45 + 45 + 15 ∧
      t.signs.entry = 0 ∧ t.line.changePending = true := by decide +kernel

/-- R117, R49: at the window's end with H at or above P_in the named pump starts; one below, it does
not. -/
theorem test_window_end_grants_on_the_headroom :
    (((after (.intentWindowExpiry 0) (bidding fun x => { x with
      headroom := 900, intent := .window ⟨0, 900, 2, 1⟩ 5000000000 })).pump 0).state = .starting) ∧
    (((after (.intentWindowExpiry 0) (bidding fun x => { x with
      headroom := 899, intent := .window ⟨0, 900, 2, 1⟩ 5000000000 })).pump 0).state = .waiting) := by
  decide +kernel

/-- R53, R54: a failed third attempt locks the pump out; an earlier one waits 10 s. -/
theorem test_third_failure_locks_out :
    ((after (.attemptFeedbackLoss 0 0) (starting true none .opened)).pump 0).state = .lockedOut ∧
    ((after (.attemptFeedbackLoss 0 0) (putPump 0
      { (starting true none .opened).pump 0 with attempt := some 2 }
      (starting true none .opened))).pump 0).retryUntil = some 5010000000 := by decide +kernel

/-- R57, R59, R42: a trip rests the pump at the tail of the duty order. -/
theorem test_trip_rests_at_the_tail :
    let t := after (.overcurrentTrip 0 0) (pumped { Pump.reset .running with overRun := 100 });
    (t.pump 0).state = .resting ∧ (t.pump 0).trouble = 1 ∧ t.pumps.duty = [1, 2, 3, 0] ∧
      contactor t 0 = false := by decide +kernel

/-- R176: the reset pin holds the part; its release starts the 20 ms. -/
theorem test_reset_pin :
    let t := after (.reset 1 .resetPin) base;
    t.mode = .held ∧ t.startup.cause = .resetPin ∧ t.lights.duty.e3 = 200 ∧
      (after (.resetPinRelease 1) t).startup.oscillatorUntil = some 5000020002 := by decide +kernel

/-- R178, R177: an erased memory is ABSENT and leads to configuration fallback; a strap reading of 15
leaves the window without an end. -/
theorem test_absent_image_and_bad_straps :
    let t := after (.imageReadComplete 0 (List.replicate 256 0xFF))
      (after (.oscillatorStartTimer 20000 true 15) State.reset);
    t.mode = .configFallback ∧ t.startup.imageStatus = some .absent ∧ t.line.window = .endless ∧
      relayEnergised t = false := by decide +kernel

/-- R180: output 1 of station 3 comes on 11 s into the run, with its selector at AUTO. -/
theorem test_fallback_output :
    let s := { inMode .configFallback with
      fallback := ⟨some 4989000000, ⟨true, false, false, false⟩⟩
      inputs := { base.inputs with selector := base.inputs.selector.set 1 (settled .auto) } };
    contactor s 1 = false ∧ contactor (after (.fallbackOutputTime 0 1) s) 1 = true ∧
      contactor (after (.fallbackOutputTime 0 2) s) 2 = false := by decide +kernel

/-- R179: the loss of the main clock from operation keeps a running pump's output on. -/
theorem test_clock_loss :
    let s := { pumped { Pump.reset .running with startedAt := some 0 } with
      inputs := { base.inputs with selector := base.inputs.selector.set 0 (settled .auto) } };
    let t := after (.mainClockLoss 0) s;
    t.mode = .clockFallback ∧ contactor t 0 = true ∧ contactor t 1 = false ∧
      t.stage.speedReference = 255 := by decide +kernel

/-- R78, R84: the eighth collided attempt drops the frame and counts a send failure. -/
theorem test_eighth_collision :
    let t := after (.collision 0 false) (onLineWith 11 (waitingEntry .stageCall 8 true false));
    t.line.queue = [] ∧ t.line.counters.sendFailures = 1 ∧ t.line.counters.collisions = 1 := by
  decide +kernel

/-- R77, R80: a high read back is no collision, and a low line is a fault past 30 bit times only. -/
theorem test_rxd_levels :
    (after (.collision 0 true) (onLineWith 11 (waitingEntry .stageCall 8 true false))).line.queue =
        [waitingEntry .stageCall 8 true false] ∧
      (after (.lineFault 0 .stuckLow 480) base).line.state = .onLine ∧
      (after (.lineFault 0 .stuckLow 481) base).line.state = .lineFault := by decide +kernel

/-- R102, R89: a second own-number frame brings CLASH. -/
theorem test_clash :
    let t := after (.ownNumberFrameReceived 1000 3 0 2 [1])
      (after (.ownNumberFrameReceived 0 3 0 1 [1]) base);
    t.line.state = .clash ∧ t.line.counters.ownNumber = 2 ∧ t.supply.mode = .island := by
  decide +kernel

/-- R10: the stable state moves at the fifth equal sample, and a later sample does not undo it. -/
theorem test_fifth_sample :
    let five := (List.replicate 5 Water.wet).foldl Filter.sample Filter.reset;
    ((List.replicate 4 Water.wet).foldl Filter.sample Filter.reset).stable = none ∧
      five.stable = some .wet ∧ (five.sample .dry).stable = some .wet ∧
      (five.sample .dry).waiting = [.wet] := by decide

/-- R22: two changes of one scan end, the probe to DRY and the high float to WET, leave the local stage
at 3 and place no STAGE CALL. -/
theorem test_one_evaluation_a_scan_end :
    let s := { wired fun i => { i with
        probe := dueFrom .wet .dry, highFloat := dueFrom .dry .wet } with
      stage := { base.stage with localStage := 3, maximum := 3, site := 3 } };
    let t := after (.floatStateChange 0 .highFloat) (after (.floatStateChange 0 .probe) s);
    (after (.floatStateChange 0 .probe) s).stage.evaluationWaits = true ∧
      t.stage.localStage = 3 ∧ t.line.queue = [] ∧ t.stage.evaluationWaits = false := by
  decide +kernel

/-- R135: the hold key's release and the obstruction's CLEAR at one scan end go on closing, the release
first or last. -/
theorem test_release_and_clear_together :
    let s := { gated 0 { Gate.reset .held with direction := some .close } with
      stage := { base.stage with localStage := 3, maximum := 3, site := 3 }
      inputs := { base.inputs with
        holdKey := dueFrom .active .inactive
        gate := base.inputs.gate.set 0
          { GateInputs.reset with obstruction := dueFrom .active .inactive } } };
    ((after (.obstructionChange 0 0) (after (.gateHoldRelease 0) s)).gate 0).state = .closing ∧
    ((after (.gateHoldRelease 0) (after (.obstructionChange 0 0) s)).gate 0).state = .closing := by
  decide +kernel

/-- R87, R54: a retry pause that ends in the LISTEN window leaves the pump in RETRY-WAIT; the window's
end puts it in WAITING. -/
theorem test_no_waiting_in_the_window :
    let s := { pumped { Pump.reset .retryWait with attempt := some 1, retryUntil := some 5000000000 } with
      line := { base.line with state := .listen, window := .opened 5000000000 } };
    let t := after (.retryPauseExpiry 0 0) s;
    (t.pump 0).state = .retryWait ∧ ((after (.listenWindowEnd 0) t).pump 0).state = .waiting ∧
      ((after (.listenWindowEnd 0) t).pump 0).attempt = some 2 := by decide +kernel

/-- R81, R70: the probe goes by the idle count, which a byte of 99 bit times ago holds below 100. -/
theorem test_probe_reads_the_idle_count :
    let s := fun from_ => lined fun l => { l with
      state := .lineFault, probeUntil := some 5000000000, idleFrom := from_ };
    (after (.probeTimerExpiry 0 1600) (s 4999998400)).line.state = .onLine ∧
      (after (.probeTimerExpiry 0 1600) (s 4999998416)).line.state = .lineFault ∧
      (after (.probeTimerExpiry 0 1599) (s 0)).line.state = .lineFault := by decide +kernel

/-- R1, R19: a scan ends 20 ms after it began and not before, and a fallback sample comes 20 ms after the
last. -/
theorem test_scan_lasts_20_ms :
    let m := after (.scanEnd 0 (scanOf 2048 2000) floating) base;
    m.meas.scanCount = 1 ∧
      (after (.scanEnd 19999 (scanOf 2048 2000) floating) m).meas.scanCount = 1 ∧
      (after (.scanEnd 20000 (scanOf 2048 2000) floating) m).meas.scanCount = 2 ∧
      (after (.fallbackInputSample 19999 floating) (after (.mainClockLoss 0) m)).inputs.probe.count = 1 ∧
      (after (.fallbackInputSample 20000 floating) (after (.mainClockLoss 0) m)).inputs.probe.count = 2 := by
  decide +kernel

/-- R50, R51: a feedback that turns CLOSED at the scan end of the check settles the attempt there, though
its change has not been handed over. -/
theorem test_feedback_closed_at_the_check :
    let s := { starting false (some 1500) .closed with
      inputs := { base.inputs with feedback := base.inputs.feedback.set 0 (dueFrom .opened .closed) } };
    ((after (.feedbackCheck 0 0) s).pump 0).state = .running := by decide +kernel

/-- R54, R89: CLASH ends the LISTEN window for a pump held in RETRY-WAIT by it. -/
theorem test_clash_ends_the_window :
    let s := { pumped { Pump.reset .retryWait with attempt := some 1 } with
      line := { base.line with state := .listen, window := .opened 5002000000 }
      supply := { base.supply with mode := .none }
      peers := { base.peers with ownNumber := [4990000000] } };
    let t := after (.ownNumberFrameReceived 0 3 0 1 [1]) s;
    t.line.state = .clash ∧ (t.pump 0).state = .waiting ∧ (t.pump 0).attempt = some 2 := by
  decide +kernel

/-- R72: a gap before a disturbance loses the partial frame; a disturbance within it does not. -/
theorem test_gap_before_a_disturbance :
    let s := lined fun l => { l with receiver := .assembling [1] false, idleFrom := 4999999000 };
    (after (.byteReceived 0 65 1) s).line.receiver = .hunting ∧
      (after (.byteReceived 0 65 1) s).line.counters.broken = 1 ∧
      (after (.byteReceived 0 64 1) s).line.receiver = .assembling [1] false := by decide +kernel

/-- R70, R72: after a disturbance, RXD high again 5 µs after its low, the idle count runs from there: a
byte whose low comes 75 µs after the disturbance's loses the partial frame by its gap of 70 µs. -/
theorem test_idle_runs_from_the_disturbance :
    let s := lined fun l => { l with receiver := .assembling [1] false, idleFrom := 4999999800 };
    let t := after (.byteReceived 0 40 1) s;
    t.line.receiver = .assembling [1] false ∧
      (after (.byteReceived 75 70 (levelsOf false 1 true)) t).line.counters.broken = 1 ∧
      (after (.byteReceived 75 64 (levelsOf false 1 true)) t).line.receiver
        = .assembling [1, 1] false := by decide +kernel

/-- R133: a lane that has been clear for 3 s up to a scan end which finds it obstructed resumes nothing,
whether the obstruction's row has come or not. -/
theorem test_obstruction_at_the_third_second :
    let s := fun o => limited { Gate.reset .suspended with
      direction := some .close, clearSince := some 4997000000 }
      { GateInputs.reset with obstruction := o };
    ((after (.obstructionClear3s 0 0) (s (settled .inactive))).gate 0).state = .closing ∧
      ((after (.obstructionClear3s 0 0) (s (dueFrom .inactive .active))).gate 0).state =
        .suspended := by decide +kernel

/-- R141: both limits ACTIVE at one scan end give a conflict in which the direction is kept, and the limit
that lets go as the other becomes ACTIVE gives none, whichever row comes first. -/
theorem test_limits_of_one_scan_end :
    let s := fun o => limited { Gate.reset .closing with direction := some .close }
      { GateInputs.reset with openLimit := o, closedLimit := dueTo .active };
    let t := after (.gateLimitChange 0 0 .closedLimit) (s (dueTo .active));
    let u := after (.gateLimitChange 0 0 .closedLimit) (s (dueFrom .active .inactive));
    (t.gate 0).state = .fault ∧ (t.gate 0).direction = some .close ∧
      (u.gate 0).state = .closed ∧
      ((after (.gateLimitChange 0 0 .openLimit) u).gate 0).state = .closed := by decide +kernel

/-- R120, R121: an own shortfall, and the end of the SHED CALL timer, raise the offset by 20. -/
theorem test_shed_timers_raise_by_twenty :
    let s := fun u => bidding fun x => { x with
      headroom := -1, shortfallUntil := some 5000000000, shedCallUntil := u };
    (after (.ownShortfallTimerExpiry 0) (s (some 5003000000))).supply.shedOffset = 20 ∧
      (after (.shedCallTimerExpiry 0) (s (some 5000000000))).supply.shedOffset = 20 := by
  decide +kernel

/-- R179: the main clock's return resets the station only after 20 ms without a break. -/
theorem test_clock_return :
    let t := after (.mainClockLoss 0) base;
    (after (.clockReturn 19999) t).mode = .clockFallback ∧
      (after (.clockReturn 20000) t).startup.cause = .clock ∧
      (after (.clockReturn 10001) (after (.mainClockLoss 9999) t)).mode = .clockFallback := by
  decide +kernel

/-- R182: of a heard report's fault flags the twelve named bits are kept. -/
theorem test_unnamed_fault_bits :
    let t := after (.statusReportReceived 0 5 1 [0, 0, 0, 0, 0, 0, 0, 0, 0, 0, 0xF0, 0x81]) base;
    (peerEntry t 5).bind (·.report) = some ⟨0, 0, false, 0x081#12⟩ := by decide +kernel

/-- R71: the first byte of a frame, 0xA6, on TXD: the start bit and the low data bits under DEN. -/
theorem test_levels_of_the_delimiter :
    (List.range 10).map (fun i => denAsserted (onLineWith i (waitingEntry .stageCall 1 true false))) =
      [true, true, false, false, true, true, false, true, false, false] := by decide +kernel

/-- `base` with frames of these kinds waiting, placed at one moment in this order, and the low and the high
float as given. -/
def queued (kinds : List FrameKind) (low high : Machine.Filter Water) : State :=
  { lined fun l => { l with
      queue := kinds.zipIdx.map fun (k, i) => ⟨k, 4999000000, i, 0, none, [1], false, false, .plain⟩
      placed := kinds.length } with
    inputs := { base.inputs with lowFloat := low, highFloat := high } }

theorem witness_HeadOfTheQueueIsBegunOrMostUrgent :
    let s := queued [.stationAnswer, .shedCall, .stageCall, .stageCall] (settled .wet) (settled .dry);
    PlacedInOrder s ∧ (headEntry s).map (·.order) = some 2 := by
  unfold PlacedInOrder
  decide

theorem witness_ChangedLocalStagesAskForAReportAndRisesCall :
    (let s := queued [.shedCall, .startIntent, .stationAnswer, .stageCall, .stationAnswer]
        (settled .wet) (dueFrom .dry .wet);
      PlacedInOrder s ∧ s.mode = .operating ∧ (waterFilter s .highFloat).waiting ≠ [] ∧
        PlacedInOrder { s with meas := { s.meas with levelDue := true } }) ∧
    (let s := wired fun i => { i with highChatter := ⟨true, [], some 5000000000⟩ };
      PlacedInOrder s ∧ (waterChatter s .highFloat).chatter = true ∧
        ∃ u ∈ (waterChatter s .highFloat).quietUntil, u ≤ s.now + 0) ∧
    (let s := { wired fun i => { i with
          highFloat := dueFrom .dry .wet, lowChatter := ⟨true, [], some 5000000000⟩ } with
        mode := .clockFallback };
      PlacedInOrder s ∧ s.mode = .clockFallback ∧ (waterFilter s .highFloat).waiting ≠ [] ∧
        (waterChatter s .lowFloat).chatter = true ∧
          ∃ u ∈ (waterChatter s .lowFloat).quietUntil, u ≤ s.now + 0) := by
  unfold PlacedInOrder
  decide

/-- R27, R83: a rise to 3 sends one STAGE CALL carrying 3, and into five taken places it comes by way of
the answer placed earliest. -/
theorem test_rise_sends_a_stage_call :
    let calls := fun kinds => (after (.floatStateChange 0 .highFloat)
      (queued kinds (settled .wet) (dueFrom .dry .wet))).line.queue.map fun e => (e.kind, e.payload);
    calls [] = [(.stageCall, [3])] ∧
      calls [.stageCall, .stationAnswer, .stageCall, .stationAnswer, .stageCall] =
        [(.stageCall, [1]), (.stageCall, [1]), (.stationAnswer, [1]), (.stageCall, [1]),
          (.stageCall, [3])] := by decide +kernel

/-- R180: at a level update in configuration fallback the low float's return from CHATTER to DRY ends the
run before the high float's change to WET begins another. -/
theorem test_low_float_before_high_float :
    let s := { queued [] (settled .dry) (dueFrom .dry .wet) with
      mode := .configFallback
      fallback := ⟨some 4900000000, ⟨true, true, false, false⟩⟩
      meas := { base.meas with levelDue := true } };
    let t := after (.levelUpdate 0)
      { s with inputs := { s.inputs with lowChatter := ⟨true, [], some 5000000000⟩ } };
    t.fallback.run = some 5000000000 := by decide +kernel

end Sys2Proof.Tests
end

section
/-! What the operations of a level update leave alone. Handing on, the stages, pump control and the water
changes reach neither the clock, the mode, the start-up block with its settings, nor the measurement. -/

namespace Sys2Proof.Machine

open Sys2Proof.Safety

/-- What of the state only the clock, start-up and the measurement write. -/
def State.basis (s : State) : Nat × Mode × Startup × Meas := (s.now, s.mode, s.startup, s.meas)

theorem State.meas_of_basis {s t : State} (h : t.basis = s.basis) : t.meas = s.meas :=
  congrArg (fun b : Nat × Mode × Startup × Meas => b.2.2.2) h

/-- Handing on leaves the basis (R109, R111). -/
theorem basis_of_handedOn {m t : State} (h : HandedOn m t) : t.basis = m.basis := by
  have hbasis := congrArg State.basis h
  exact hbasis

theorem foldl_basis {α : Type} {f : State → α → State} (hf : ∀ s a, (f s a).basis = s.basis)
    (l : List α) (s : State) : (l.foldl f s).basis = s.basis := by
  induction l generalizing s with
  | nil => rfl
  | cons a l ih => exact (ih _).trans (hf s a)

@[simp] theorem handOver_basis (s : State) : (handOver s).basis = s.basis :=
  basis_of_handedOn (handOver_handed s)

@[simp] theorem reportDue_basis (s : State) : (reportDue s).basis = s.basis :=
  basis_of_handedOn (reportDue_handed s)

@[simp] theorem placeFrame_basis (kind : FrameKind) (payload : List Byte) (tag : AnswerTag)
    (s : State) : (placeFrame kind payload tag s).basis = s.basis :=
  basis_of_handedOn (placeFrame_handed kind payload tag s)

@[simp] theorem relight_basis (s : State) : (relight handOver s).basis = s.basis :=
  basis_of_handedOn (relight_handed handOver_handed s)

@[simp] theorem pumpsChanged_basis (old s : State) :
    (pumpsChanged handOver old s).basis = s.basis :=
  basis_of_handedOn (pumpsChanged_handed handOver_handed old s)

@[simp] theorem gatesChanged_basis (old s : State) :
    (gatesChanged handOver old s).basis = s.basis :=
  basis_of_handedOn (gatesChanged_handed handOver_handed old s)

/-! ## The stages -/

@[simp] theorem showEntry_basis (stage i : Nat) (s : State) :
    (showEntry stage i s).basis = s.basis := by
  unfold showEntry refreshSigns
  dsimp only
  split <;> rfl

theorem turnChannel_basis (s : State) (c : Fin 2) : (turnChannel s c).basis = s.basis := by
  unfold turnChannel
  split <;> rfl

theorem lowStageAfter_basis (old : Nat) (s : State) : (lowStageAfter old s).basis = s.basis := by
  unfold lowStageAfter
  split
  · rfl
  · split <;> rfl

@[simp] theorem gatesOnStage_basis (old : Nat) (s : State) :
    (gatesOnStage old s).basis = s.basis := by
  have cancelled : ∀ u : State, (channels.foldl cancelReopen u).basis = u.basis :=
    foldl_basis (fun _ _ => rfl) channels
  have turned : ∀ u : State, (channels.foldl turnChannel u).basis = u.basis :=
    foldl_basis turnChannel_basis channels
  unfold gatesOnStage
  dsimp only
  rw [gatesChanged_basis]
  split <;> split <;> simp only [cancelled, turned, lowStageAfter_basis]

/-- A new site stage reaches the gates, the lights, the signs and the report schedule (R31). -/
theorem setSite_basis (v : Nat) (s : State) : (setSite v s).basis = s.basis := by
  unfold setSite
  dsimp only
  split
  · rfl
  · rw [reportDue_basis]
    split
    · rw [showEntry_basis, relight_basis, gatesOnStage_basis]
      rfl
    · rfl

@[simp] theorem recomputeM_basis (s : State) : (recomputeM s).basis = s.basis := by
  unfold recomputeM
  dsimp only
  split
  · exact setSite_basis _ _
  · split <;> rfl

theorem setLocal_basis (v : Nat) (s : State) : (setLocal v s).basis = s.basis := by
  obtain ⟨-, h⟩ | ⟨-, h⟩ := setLocal_cases v s
  · rw [h]
  · rw [h, recomputeM_basis]
    split
    · rw [placeFrame_basis, reportDue_basis]
      rfl
    · rw [reportDue_basis]
      rfl

@[simp] theorem evaluateStage_basis (s : State) : (evaluateStage s).basis = s.basis :=
  setLocal_basis _ _

@[simp] theorem formLevelStage_basis (s : State) : (formLevelStage s).basis = s.basis := rfl

/-! ## Pump control and trim -/

theorem handleHand_basis (s : State) (p : Fin 4) : (handleHand s p).basis = s.basis := by
  unfold handleHand
  split
  · rfl
  · split
    · rfl
    · split <;> rfl

theorem addOne_basis (s : State) : (addOne s).basis = s.basis := by
  unfold addOne
  split
  · rfl
  · split
    · rfl
    · split <;> rfl

theorem enterRunOn_basis (p : Fin 4) (s : State) : (enterRunOn p s).basis = s.basis := by
  unfold enterRunOn
  split <;> rfl

theorem removeOne_basis (s : State) : (removeOne s).basis = s.basis := by
  unfold removeOne
  split
  · rfl
  · split
    · rfl
    · split
      · exact enterRunOn_basis _ s
      · rfl

theorem addPumps_basis (n : Nat) (s : State) : (addPumps n s).basis = s.basis := by
  induction n generalizing s with
  | zero => rfl
  | succ n ih =>
    unfold addPumps
    split
    · rw [ih, addOne_basis]
    · rfl

theorem removePumps_basis (n : Nat) (s : State) : (removePumps n s).basis = s.basis := by
  induction n generalizing s with
  | zero => rfl
  | succ n ih =>
    unfold removePumps
    split
    · rw [ih, removeOne_basis]
    · rfl

@[simp] theorem controlPumps_basis (s : State) : (controlPumps s).basis = s.basis := by
  unfold controlPumps
  dsimp only
  rw [pumpsChanged_basis, removePumps_basis, addPumps_basis, foldl_basis handleHand_basis]

@[simp] theorem updateTrim_basis (s : State) : (updateTrim s).basis = s.basis := by
  unfold updateTrim
  split <;> rfl

/-- Demand, pump control and trim take the measurement as it is (R35, R36). -/
@[simp] theorem updateDemand_basis (s : State) : (updateDemand s).basis = s.basis := by
  unfold updateDemand
  dsimp only
  split
  · rw [handOver_basis, updateTrim_basis, controlPumps_basis]
    rfl
  · rfl

/-! ## The water changes of a scan end -/

theorem fallbackRun_basis (old s : State) : (fallbackRun old s).basis = s.basis := by
  unfold fallbackRun
  split
  · rfl
  · split
    · rfl
    · split <;> rfl

theorem enterResting_basis (p : Fin 4) (s : State) : (enterResting p s).basis = s.basis := rfl

theorem dryRunIfDry_basis (old s : State) : (dryRunIfDry old s).basis = s.basis := by
  unfold dryRunIfDry dryRun
  dsimp only
  split
  · rw [pumpsChanged_basis, foldl_basis fun u p => enterResting_basis p u]
    split <;> rfl
  · rfl

theorem settleStage_basis (owed : Bool) (s : State) : (settleStage owed s).basis = s.basis := by
  unfold settleStage
  split
  · rfl
  · split
    · rfl
    · exact evaluateStage_basis s

theorem afterWater_basis (old s : State) : (afterWater old s).basis = s.basis := by
  unfold afterWater
  dsimp only
  rw [settleStage_basis]
  split
  · rw [dryRunIfDry_basis, fallbackRun_basis]
  · exact fallbackRun_basis old s

theorem setWater_basis (w : WaterInput) (f : Filter Water) (c : Chatter) (s : State) :
    (setWater w f c s).basis = s.basis := by
  cases w <;> rfl

theorem takeWater_basis (s : State) (w : WaterInput) : (takeWater s w).basis = s.basis := by
  unfold takeWater waterTaken
  split
  · rw [afterWater_basis, setWater_basis]
  · rfl

theorem chatterEnds_basis (w : WaterInput) (s : State) : (chatterEnds w s).basis = s.basis := by
  unfold chatterEnds
  split
  · rw [afterWater_basis, setWater_basis]
  · rfl

@[simp] theorem waterAtUpdate_basis (s : State) : (waterAtUpdate s).basis = s.basis :=
  foldl_basis (fun u w => (chatterEnds_basis w _).trans (takeWater_basis u w)) waterInputs s

end Sys2Proof.Machine
end

section
/-! Levels and the rise rate: the level of a loop (R7), and what one rate computation does (R14). -/

namespace Sys2Proof.Machine

/-! ## The level of a loop (R7) -/

theorem levelOfMean_le_span (span c : Nat) : levelOfMean span c ≤ span := by
  have clamped : max 640 (min 3200 c) - 640 ≤ 2560 := by omega
  exact Nat.div_le_of_le_mul (Nat.mul_le_mul_right span clamped)

theorem levelOfMean_of_le (span : Nat) {c : Nat} (h : c ≤ 640) : levelOfMean span c = 0 := by
  have clamped : max 640 (min 3200 c) - 640 = 0 := by omega
  rw [levelOfMean, clamped, Nat.zero_mul, Nat.zero_div]

theorem levelOfMean_of_ge (span : Nat) {c : Nat} (h : 3200 ≤ c) : levelOfMean span c = span := by
  have clamped : max 640 (min 3200 c) - 640 = 2560 := by omega
  rw [levelOfMean, clamped, Nat.mul_div_cancel_left span (by decide)]

/-- In normal operation a valid loop has the level of its mean (R6, R7). -/
theorem loopLevel_of_valid {s : State} {l : Loop} {c : Nat} (hmode : s.mode = .operating)
    (hvalid : loopValid s l = true) (hmean : loopMean l = some c) :
    loopLevel s l = some (levelOfMean s.settings.span c) := by
  simp [loopLevel, operating, hmode, hvalid, hmean]

/-! ## The rate state through the parts of a level update (R8, R14) -/

/-- What the rate computation keeps from one computation to the next (R14, R15). -/
def Meas.rateState (m : Meas) : Int × Bool × Option Nat × Option Nat :=
  (m.rate, m.rateValid, m.levelPrev, m.rateTimer)

theorem Meas.rateState_eq_iff {m : Meas} {r : Int} {valid : Bool} {previous timer : Option Nat} :
    m.rateState = (r, valid, previous, timer) ↔
      m.rate = r ∧ m.rateValid = valid ∧ m.levelPrev = previous ∧ m.rateTimer = timer := by
  simp only [Meas.rateState, Prod.mk.injEq]

theorem takeLevel_rateState (s : State) :
    (takeLevel s).meas.rateState = s.meas.rateState := rfl

theorem disagreement_rateState (s : State) :
    (disagreement s).meas.rateState = s.meas.rateState := by
  unfold disagreement
  split <;> rfl

theorem updateInflow_rateState (s : State) :
    (updateInflow s).meas.rateState = s.meas.rateState := by
  unfold updateInflow
  dsimp only
  split
  · split <;> rfl
  · rfl

theorem updateInflow_level (s : State) : (updateInflow s).meas.level = s.meas.level := by
  unfold updateInflow
  dsimp only
  split
  · split <;> rfl
  · rfl

/-- One rate computation, where there is a level and a level before it (R14). -/
theorem computeRate_of_levels {s : State} {l p : Nat} (hl : s.meas.level = some l)
    (hp : s.meas.levelPrev = some p) :
    computeRate s = { s with meas := { s.meas with
      rate := nextRate s.meas.rate (levelChange l p)
      levelPrev := some l
      rateTimer := some rateScans } } := by
  simp only [computeRate, hl, hp]

theorem computeRate_level (s : State) : (computeRate s).meas.level = s.meas.level := by
  unfold computeRate
  split <;> rfl

theorem updateRate_level (s : State) : (updateRate s).meas.level = s.meas.level := by
  unfold updateRate
  split
  · rfl
  · split
    · split
      · exact computeRate_level s
      · rfl
    · rfl

/-- A level update computes the rate where its timer has run out (R14). -/
theorem updateRate_of_timerOut {s : State} {l : Nat} (hl : s.meas.level = some l)
    (hvalid : s.meas.rateValid = true) (htimer : s.meas.rateTimer = some 0) :
    updateRate s = computeRate s := by
  simp only [updateRate, hl, hvalid, htimer, if_true]

/-- The measurement part of a level update computes the rate from the level it forms, where the rate is
valid and its timer has run out (R14). -/
theorem measureLevel_rateState {s : State} {p l : Nat} {r : Int}
    (hstart : s.meas.rateState = (r, true, some p, some 0))
    (hl : (measureLevel s).meas.level = some l) :
    (measureLevel s).meas.rateState =
      (nextRate r (levelChange l p), true, some l, some rateScans) := by
  have hbefore : (disagreement (takeLevel s)).meas.rateState = (r, true, some p, some 0) := by
    rw [disagreement_rateState, takeLevel_rateState, hstart]
  have hformed : (disagreement (takeLevel s)).meas.level = some l := by
    rw [← hl, measureLevel, updateInflow_level, updateRate_level]
  obtain ⟨hrate, hvalid, hprev, htimer⟩ := Meas.rateState_eq_iff.mp hbefore
  rw [measureLevel, updateInflow_rateState, updateRate_of_timerOut hformed hvalid htimer,
    computeRate_of_levels hformed hprev]
  exact Meas.rateState_eq_iff.mpr ⟨by rw [hrate], hvalid, rfl, rfl⟩

/-- The measurement that a level update leaves is the one that its measurement part forms (R8). -/
theorem levelUpdate_meas (s : State) :
    (levelUpdate s).meas = (measureLevel (waterAtUpdate s)).meas := by
  have h : (levelUpdate s).basis = (measureLevel (waterAtUpdate s)).basis := by
    simp only [levelUpdate, updateDemand_basis, evaluateStage_basis, formLevelStage_basis]
  exact State.meas_of_basis h

/-- A filtered rate stays within what a change of level can be (R14). -/
theorem nextRate_bounds {r d : Int} (hr : -2000 ≤ r ∧ r ≤ 2000) (hd : -2000 ≤ d ∧ d ≤ 2000) :
    -2000 ≤ nextRate r d ∧ nextRate r d ≤ 2000 := by
  have hlow : -8000 ≤ 3 * r + d := by omega
  have hhigh : 3 * r + d ≤ 8000 := by omega
  exact ⟨Int.tdiv_le_tdiv (by decide) hlow, Int.tdiv_le_tdiv (by decide) hhigh⟩

theorem levelChange_bounds (l p : Nat) : -2000 ≤ levelChange l p ∧ levelChange l p ≤ 2000 := by
  unfold levelChange
  omega

/-- A level update computes the rate from the level it forms, where the rate is valid and its timer
stands at 0; the water changes that it takes first leave the rate alone (R8, R14). -/
theorem levelUpdate_rateState {s : State} {p l : Nat} {r : Int}
    (hstart : s.meas.rateState = (r, true, some p, some 0))
    (hl : (levelUpdate s).meas.level = some l) :
    (levelUpdate s).meas.rateState =
      (nextRate r (levelChange l p), true, some l, some rateScans) := by
  have hwater : (waterAtUpdate s).meas = s.meas := State.meas_of_basis (waterAtUpdate_basis s)
  rw [levelUpdate_meas] at hl ⊢
  exact measureLevel_rateState (by rw [hwater, hstart]) hl

/-! ## The commands -/

theorem exec_rateTimer (dt : Nat) (s : State) :
    exec (.rateTimer dt) s = takeEvent rateTimerEnds computeRate dt s := rfl

theorem exec_levelUpdate (dt : Nat) (s : State) : exec (.levelUpdate dt) s =
    takeEvent (fun t => scanning t && t.meas.levelDue) levelUpdate dt s := rfl

/-- RATE_TIMER computes the rate where the timer stands at 0 between level updates (R14). -/
theorem exec_rateTimer_of_timerOut {s : State} {dt l p : Nat} (hmode : s.mode = .operating)
    (hvalid : s.meas.rateValid = true) (htimer : s.meas.rateTimer = some 0)
    (hdue : s.meas.levelDue = false) (hl : s.meas.level = some l)
    (hp : s.meas.levelPrev = some p) :
    exec (.rateTimer dt) s = .next { s with
      now := s.now + dt
      meas := { s.meas with
        rate := nextRate s.meas.rate (levelChange l p)
        levelPrev := some l
        rateTimer := some rateScans } } := by
  have hguard : rateTimerEnds (advance dt s) = true := by
    simp [rateTimerEnds, operating, hmode, hvalid, htimer, hdue]
  rw [exec_rateTimer, takeEvent_of_guard hguard, computeRate_of_levels (s := advance dt s) hl hp]
  rfl

/-- In normal operation the converter scans, and a level update that is due happens (R1, R8). -/
theorem exec_levelUpdate_of_due {s : State} (dt : Nat) (hmode : s.mode = .operating)
    (hdue : s.meas.levelDue = true) :
    exec (.levelUpdate dt) s = .next (levelUpdate (advance dt s)) := by
  have hguard : (scanning (advance dt s) && (advance dt s).meas.levelDue) = true := by
    simp [scanning, lineRuns, hmode, hdue]
  rw [exec_levelUpdate, takeEvent_of_guard (guard := fun t => scanning t && t.meas.levelDue) hguard]

/-- LEVEL_UPDATE computes the rate from the level it forms, where the timer stands at 0 (R14). -/
theorem exec_levelUpdate_of_timerOut {s : State} {p : Nat} {r : Int} (dt : Nat)
    (hmode : s.mode = .operating) (hdue : s.meas.levelDue = true)
    (hstart : s.meas.rateState = (r, true, some p, some 0)) :
    ∃ t, exec (.levelUpdate dt) s = .next t ∧ ∀ l ∈ t.meas.level,
      t.meas.rate = nextRate r (levelChange l p) ∧ t.meas.levelPrev = some l ∧
        t.meas.rateTimer = some rateScans := by
  refine ⟨_, exec_levelUpdate_of_due dt hmode hdue, fun l hl => ?_⟩
  obtain ⟨hrate, -, hprev, hreload⟩ := Meas.rateState_eq_iff.mp
    (levelUpdate_rateState (s := advance dt s) hstart hl)
  exact ⟨hrate, hprev, hreload⟩

end Sys2Proof.Machine
end

section
/-! The statements about loop levels and the rise rate. -/

namespace Sys2Proof.Proofs

open Sys2Proof.Machine

/-- Settles O14: the level is `levelOfMean` of the mean, whose numerator lies between 0 and span × 2560. -/
theorem loopLevelIsTheFloorOfItsClampedMean : Obligations.LoopLevelIsTheFloorOfItsClampedMean := by
  intro s l c hmode hvalid hmean
  have hlevel := loopLevel_of_valid hmode hvalid hmean
  refine ⟨hlevel, fun v hv => ?_, fun hlow => ?_, fun hhigh => ?_⟩
  · obtain rfl : levelOfMean s.settings.span c = v := Option.some.inj (hlevel.symm.trans hv)
    exact levelOfMean_le_span s.settings.span c
  · rw [hlevel, levelOfMean_of_le _ hlow]
  · rw [hlevel, levelOfMean_of_ge _ hhigh]

/-- Settles O20: RATE_TIMER is one rate computation, and so is the rate part of LEVEL_UPDATE, since
nothing else in it writes the rate. -/
theorem rateTimerFiltersTheRise : Obligations.RateTimerFiltersTheRise := by
  intro s dt hmode hvalid htimer hdue l hl p hp
  refine ⟨exec_rateTimer_of_timerOut hmode hvalid htimer hdue hl hp,
    fun hlow hhigh => nextRate_bounds ⟨hlow, hhigh⟩ (levelChange_bounds l p), fun _ => ?_⟩
  exact exec_levelUpdate_of_timerOut dt hmode rfl
    (Meas.rateState_eq_iff.mpr ⟨rfl, hvalid, hp, htimer⟩)

end Sys2Proof.Proofs
end

section
/-! The level stage (R23): when a stage holds, and the new level stage as the greatest one that does. -/

namespace Sys2Proof.Machine

/-- A stage holds where the level reaches its threshold, or, from a level stage no lower before, its
threshold less h (R23). -/
theorem stageHolds_iff {c : Settings} {previous : Option Nat} {level k : Nat} :
    stageHolds c previous level k = true ↔
      stageThreshold c k ≤ level ∨
        ∃ q ∈ previous, k ≤ q ∧ stageThreshold c k ≤ level + c.hysteresis := by
  cases previous with
  | none => simp [stageHolds]
  | some p => simp [stageHolds]

/-- Trying the stages from 4 down finds the greatest that holds, 0 if none does (R23). -/
theorem newLevelStage_eq_findGreatest (c : Settings) (previous : Option Nat) (level : Nat) :
    newLevelStage c previous level =
      Nat.findGreatest (fun k => stageHolds c previous level k = true) 4 := by
  simp only [Nat.findGreatest_succ, Nat.findGreatest_zero]
  rfl

theorem newLevelStage_le_four (c : Settings) (previous : Option Nat) (level : Nat) :
    newLevelStage c previous level ≤ 4 := by
  rw [newLevelStage_eq_findGreatest]
  exact Nat.findGreatest_le 4

/-- A level stage other than 0 is one that holds. -/
theorem stageHolds_newLevelStage {c : Settings} {previous : Option Nat} {level : Nat}
    (h : newLevelStage c previous level ≠ 0) :
    stageHolds c previous level (newLevelStage c previous level) = true :=
  Nat.findGreatest_of_ne_zero (newLevelStage_eq_findGreatest c previous level).symm h

/-- No stage above the new level stage holds. -/
theorem not_stageHolds_of_newLevelStage_lt {c : Settings} {previous : Option Nat} {level j : Nat}
    (hlt : newLevelStage c previous level < j) (hj : j ≤ 4) :
    ¬ stageHolds c previous level j = true := by
  rw [newLevelStage_eq_findGreatest] at hlt
  exact Nat.findGreatest_is_greatest hlt hj

end Sys2Proof.Machine
end

section
/-! The statement about the level stage. -/

namespace Sys2Proof.Proofs

open Sys2Proof.Machine

/-- Settles O19: the two conditions are those under which a stage holds, and the new level stage is the
greatest stage up to 4 that does. -/
theorem levelStageIsTheGreatestThatHolds : Obligations.LevelStageIsTheGreatestThatHolds := by
  intro c p level
  refine ⟨newLevelStage_le_four c p level, fun hone => ?_, fun j hj hlt => ?_⟩
  · exact stageHolds_iff.mp (stageHolds_newLevelStage (Nat.one_le_iff_ne_zero.mp hone))
  · have hfour : j ≤ 4 := (by decide : ∀ i ∈ [1, 2, 3, 4], i ≤ 4) j hj
    rw [← stageHolds_iff]
    exact not_stageHolds_of_newLevelStage_lt hlt hfour

end Sys2Proof.Proofs
end
